-- ==== Sys2Proof/Word.lean ====
section
/-! DEFINITION. The word types of the JB460 and their plainest arithmetic (spec 00, Conventions). -/

namespace Sys2Proof

/-- One byte on the path link, the SPI or the card. -/
abbrev Byte := BitVec 8

/-- One pixel in its 16-bit container (03). -/
abbrev Pixel := BitVec 16

/-- A point on either time base: the timestamp counter in µs (R1) or the monitor time in ms (R110). -/
abbrev Time := BitVec 32

/-- A frame number, compared as unsigned differences modulo 2^32 (R44). -/
abbrev FrameNo := BitVec 32

/-- One 512-byte card block. -/
abbrev Block := Vector Byte 512

/-- A value per axis of rotation, in the order yaw, pitch, roll. -/
structure PerAxis (α : Type) where
  yaw : α
  pitch : α
  roll : α
deriving DecidableEq, Repr

/-- The same function on each axis. -/
def PerAxis.map {α β : Type} (f : α → β) (p : PerAxis α) : PerAxis β :=
  ⟨f p.yaw, f p.pitch, f p.roll⟩

/-- Whether a test holds on each axis. -/
def PerAxis.all {α : Type} (f : α → Bool) (p : PerAxis α) : Bool :=
  f p.yaw && f p.pitch && f p.roll

/-- The largest value of a 32-bit saturating counter (00, Counters). -/
def counterMax : Nat := 4294967295

end Sys2Proof
end

