-- ==== Sys2Proof/Syntax.lean ====
section
/-! DEFINITION. The commands the JB460 takes: one constructor per row of spec/opcode_table.json, with what the
world outside gives with it. A request carries its tag and its arguments as numbers; a named value that names nothing
is `none`, and the owner's check refuses it. -/

namespace Sys2Proof

/-- A gyro axis (01 section 1.2). -/
inductive GyroAxis where | x | y | z
deriving DecidableEq, Repr

/-- A sign of the axis map (01 section 1.2). -/
inductive Sign where | plus | minus
deriving DecidableEq, Repr

/-- Byte order of the inertial sensor's 16-bit values (01 section 1.2). -/
inductive ByteOrder where | highFirst | lowFirst
deriving DecidableEq, Repr

/-- Steadying mode (R31). -/
inductive Mode where | off | on
deriving DecidableEq, Repr

/-- The two lens tables (R23). -/
inductive LensAxis where | h | v
deriving DecidableEq, Repr

/-- The stream an EXTENT ADD names (R58). -/
inductive Stream where | video | track
deriving DecidableEq, Repr

/-- Measurement channels, in the order of their numbers (R170). -/
inductive Channel where | current | cell1 | cell2 | input | battTemp | dieTemp | pack
deriving DecidableEq, Repr

/-- The arguments of MOTION SETUP (01 section 1.2, 02 section 2.3). -/
structure MotionArgs where
  enable : Option Bool
  startAddress : Nat
  order : Option ByteOrder
  axes : PerAxis (Option GyroAxis)
  signs : PerAxis (Option Sign)
  bias : PerAxis Int
  threshold : Nat
  holdMs : Nat
  rate : PerAxis Nat
  leak : PerAxis Nat
  limit : PerAxis Nat
deriving DecidableEq, Repr

/-- The arguments of LOAD GEOMETRY and, once checked, the geometry itself (03 section 3.1). -/
structure Geometry where
  sensorW : Nat
  sensorH : Nat
  w : Nat
  h : Nat
  bands : Nat
  watchMs : Nat
deriving DecidableEq, Repr

/-- The arguments of CARD READ (R91). -/
structure ReadArgs where
  start : Nat
  count : Nat
deriving DecidableEq, Repr

/-- One entry of SCAN LIST (R115). -/
structure ScanArg where
  channel : Option Channel
  rate : Nat
  discards : Nat
deriving DecidableEq, Repr

/-- The arguments of COUNTER SET (R122). -/
structure CounterArgs where
  capacity : Nat
  seed : Nat
  reserve : Nat
  lowCell : Nat
deriving DecidableEq, Repr

/-- The mode of BALANCE SET (R133): MANUAL carries a setting for each cell. -/
inductive BalanceArg where
  | auto
  | manual (cell1 cell2 : Option Bool)
  | unnamed
deriving DecidableEq, Repr

/-- The arguments of PROTECT SETUP (08 section 8.1), delays in the unit of the table (SC in steps, the others in ms). -/
structure ProtectArgs where
  scMa : Nat
  scSteps : Nat
  docMa : Nat
  docMs : Nat
  cocMa : Nat
  cocMs : Nat
  covMv : Nat
  covMs : Nat
  duvMv : Nat
  duvMs : Nat
  autoRecovery : Option Bool
deriving DecidableEq, Repr

/-- The arguments of CHARGE SETUP and, once checked, the charger's settings (09 section 9.1). -/
structure ChargeSettings where
  icc : Nat
  vcv : Nat
  iterm : Nat
  prechargeMv : Nat
  prechargeMin : Nat
  fastMin : Nat
  vfloor : Nat
deriving DecidableEq, Repr

/-- What the card answers during the start sequence (R79). -/
inductive StartResponse where
  | accepted
  | notReady
  | capacity (blocks : Nat)
  | error
deriving DecidableEq, Repr

/-- The commands, in the order of spec/opcode_table.json. -/
inductive Instr where
  | powerOnReset
  | pathResetEnd
  | dataReadyEdge
  | sampleReadComplete (bytes : Vector Byte 12)
  | sampleIntegration
  | imuSilent
  | shockHoldExpiry
  | motionSetup (tag : Byte) (args : MotionArgs)
  | imuWrite (tag : Byte) (address : Nat) (data : List Byte)
  | imuWriteDone
  | imuRead (tag : Byte) (address count : Nat)
  | imuReadDone (bytes : List Byte)
  | lensTable (tag : Byte) (axis : Option LensAxis) (spacing : Nat) (entries : Vector Nat 17)
  | steadyMode (tag : Byte) (mode : Option Mode)
  | recenter (tag : Byte)
  | loadGeometry (tag : Byte) (args : Geometry)
  | frameStartUnit
  | lineUnit (pixels : List Pixel)
  | frameEndUnit
  | sensorStall
  | clipArm (tag : Byte) (slot clip : Nat) (track : Option Bool) (lowWater : Option Nat)
  | extentAdd (tag : Byte) (slot : Nat) (stream : Option Stream) (start length : Nat)
  | clipStart (tag : Byte) (slot : Nat)
  | clipStop (tag : Byte) (slot : Nat) (last : FrameNo)
  | clipDrop (tag : Byte) (slot : Nat)
  | clipData (slot n : Nat) (payload : Option (List Block))
  | plainWrite (start n : Nat) (payload : Option (List Block))
  | cardDetectRise
  | cardDetectFall
  | cardDebounceExpiry
  | cardStartResponse (response : StartResponse)
  | startDeadlineExpiry
  | cardRescan (tag : Byte)
  | cardSetup (tag : Byte) (retryLimit writeTimeout readWait : Nat)
  | transactionBegin
  | cardCommandResponse (good : Bool)
  | writeBlockAck (good : Bool)
  | busyEnd
  | busyTimeout
  | cardResponseTimeout
  | readBlockReceived (block : Option Block)
  | retryBegin
  | cardRead (tag : Byte) (payload : Option ReadArgs)
  | readWaitTimeout
  | bufferHandback
  | closingPad (slot : Fin 4)
  | summaryBuild (slot : Fin 4)
  | currentResult (milliamps : Int)
  | voltageResult (value : Int)
  | currentRate (tag : Byte) (rate : Nat)
  | scanList (tag : Byte) (entries : List ScanArg)
  | counterSet (tag : Byte) (args : CounterArgs)
  | scComparatorRise
  | scComparatorFall
  | scDelayExpiry
  | docTimerExpiry
  | cocTimerExpiry
  | covTimerExpiry
  | duvWarningExpiry
  | duvCutExpiry
  | dischargeHoldoffExpiry
  | chargeHoldoffExpiry
  | dischargeSwitch (tag : Byte) (on : Option Bool)
  | balanceSet (tag : Byte) (mode : BalanceArg)
  | protectSetup (tag : Byte) (args : ProtectArgs)
  | protectTransferExpiry (signal : Bool)
  | chargeInhibit (tag : Byte) (on : Option Bool)
  | chargeSetup (tag : Byte) (args : ChargeSettings)
  | qualifyDeadlineExpiry
  | prechargeTimerExpiry
  | fastTimerExpiry
  | zeroDeadlineExpiry
  | weakClearExpiry
  | pathReset (tag : Byte) (force : Option Bool)
  | headerError
  | unknownRequest (tag : Byte) (code : Option Byte)
  | upstreamUnitSent
  | identify (tag : Byte)
  | statusRead (tag : Byte)
  | energyRead (tag : Byte)
  | controlPayloadFailure (tag : Byte)
deriving DecidableEq, Repr

end Sys2Proof
end

