-- ==== Sys2Proof/Decode.lean ====
section
/-! DEFINITION. How a downstream packet's bytes are read (12, R169 and R170), and the host's decodeTableWord.

The opcode table gives no row any bits, so decodeTableWord answers none. What the spec does give is the byte form of
the packets on the path link: packetCommand says, for any bytes between two framings of the link, which command they
are. -/

namespace Sys2Proof

/-- The opcode table gives bits to no row: no word spells a command (98_reader: n_rows_with_fixed 0). -/
def decodeTableWord (_nbits _w : Nat) : Option Instr := none

/-! ### Byte order and checks -/

/-- The unsigned value of little-endian bytes (12: "Every multi-byte field in this chapter is little-endian"). -/
def leNat (bytes : List Byte) : Nat :=
  match bytes with
  | [] => 0
  | b :: rest => b.toNat + 256 * leNat rest

/-- The k little-endian bytes of a number. -/
def leBytes (k n : Nat) : List Byte :=
  match k with
  | 0 => []
  | k + 1 => BitVec.ofNat 8 n :: leBytes k (n / 256)

/-- One bit step of a cyclic redundancy register, most significant bit first. -/
def crcShift {w : Nat} (poly reg : BitVec w) : BitVec w :=
  if reg.msb then (reg <<< 1) ^^^ poly else reg <<< 1

/-- A byte taken into the register, most significant bit first. -/
def crcByte {w : Nat} (poly reg : BitVec w) (b : Byte) : BitVec w :=
  (List.range 8).foldl (fun r _ => crcShift poly r) (reg ^^^ (b.setWidth w <<< (w - 8)))

/-- Header and cell check: x^16 + x^12 + x^5 + 1 from 0xFFFF, not inverted (R169). -/
def check16 (bytes : List Byte) : BitVec 16 := bytes.foldl (crcByte 0x1021#16) 0xFFFF#16

/-- Payload and line check: 0x04C11DB7 from 0xFFFFFFFF, not inverted (R169). -/
def check32 (bytes : List Byte) : BitVec 32 := bytes.foldl (crcByte 0x04C11DB7#32) 0xFFFFFFFF#32

/-! ### Fields of a payload, by byte offset -/

/-- An unsigned field of k bytes at an offset. -/
def fieldNat (k : Nat) (bytes : List Byte) (offset : Nat) : Nat := leNat ((bytes.drop offset).take k)

/-- A signed field of two bytes at an offset. -/
def fieldInt16 (bytes : List Byte) (offset : Nat) : Int := (BitVec.ofNat 16 (fieldNat 2 bytes offset)).toInt

/-- A named value: the names numbered from 0 in the order the rule lists them (R170). -/
def fieldName {α : Type} (names : List α) (bytes : List Byte) (offset : Nat) : Option α :=
  names[fieldNat 1 bytes offset]?

/-- The names on, off in the order that 01 section 1.2 lists them. -/
def onOffNames : List Bool := [true, false]
/-- The names OFF, ON in the order that R32 lists them. -/
def offOnNames : List Bool := [false, true]
/-- The names YES, NO in the order that R157 lists them. -/
def yesNoNames : List Bool := [true, false]

/-- Channel numbers (R170). -/
def channelNames : List Channel := [.current, .cell1, .cell2, .input, .battTemp, .dieTemp, .pack]

/-- A value per axis from a field every `step` bytes. -/
def perAxisField {α : Type} (read : Nat → α) (offset step : Nat) : PerAxis α :=
  ⟨read offset, read (offset + step), read (offset + 2 * step)⟩

/-- MOTION SETUP's 40 argument bytes (R2, R170). -/
def readMotionArgs (b : List Byte) : MotionArgs where
  enable := fieldName onOffNames b 0
  startAddress := fieldNat 1 b 1
  order := fieldName [.highFirst, .lowFirst] b 2
  axes := perAxisField (fieldName [.x, .y, .z] b) 3 2
  signs := perAxisField (fieldName [.plus, .minus] b) 4 2
  bias := perAxisField (fieldInt16 b) 9 2
  threshold := fieldNat 3 b 15
  holdMs := fieldNat 1 b 18
  rate := perAxisField (fieldNat 2 b) 19 2
  leak := perAxisField (fieldNat 2 b) 25 2
  limit := perAxisField (fieldNat 3 b) 31 3

/-- LOAD GEOMETRY's 11 argument bytes (R37, R170). -/
def readGeometry (b : List Byte) : Geometry :=
  ⟨fieldNat 2 b 0, fieldNat 2 b 2, fieldNat 2 b 4, fieldNat 2 b 6, fieldNat 1 b 8, fieldNat 2 b 9⟩

/-- PROTECT SETUP's 18 argument bytes (R134, R170). -/
def readProtectArgs (b : List Byte) : ProtectArgs where
  scMa := fieldNat 2 b 0
  scSteps := fieldNat 1 b 2
  docMa := fieldNat 2 b 3
  docMs := fieldNat 1 b 5
  cocMa := fieldNat 2 b 6
  cocMs := fieldNat 1 b 8
  covMv := fieldNat 2 b 9
  covMs := fieldNat 2 b 11
  duvMv := fieldNat 2 b 13
  duvMs := fieldNat 2 b 15
  autoRecovery := fieldName onOffNames b 17

/-- CHARGE SETUP's 13 argument bytes (R149, R170). -/
def readChargeSettings (b : List Byte) : ChargeSettings :=
  ⟨fieldNat 2 b 0, fieldNat 2 b 2, fieldNat 2 b 4, fieldNat 2 b 6, fieldNat 1 b 8, fieldNat 2 b 9, fieldNat 2 b 11⟩

/-- BALANCE SET's 3 argument bytes: the form AUTO or MANUAL, then the widest form's two settings (R133, R170). -/
def readBalanceArg (b : List Byte) : BalanceArg :=
  match fieldNat 1 b 0 with
  | 0 => .auto
  | 1 => .manual (fieldName onOffNames b 1) (fieldName onOffNames b 2)
  | _ => .unnamed

/-- An optional field: its presence byte, then its bytes (R57, R170). R170 gives 1 and 0; a presence byte of 2 to 255 is
taken as 1 by the model's choice (log 32). -/
def readOptional (k : Nat) (b : List Byte) (offset : Nat) : Option Nat :=
  if fieldNat 1 b offset = 0 then none else some (fieldNat k b (offset + 1))

/-- The entries of SCAN LIST, four bytes each (R115, R170). -/
def readScanArgs (b : List Byte) : List ScanArg :=
  (List.range (fieldNat 1 b 0)).map fun i =>
    ⟨fieldName channelNames b (1 + 4 * i), fieldNat 2 b (2 + 4 * i), fieldNat 1 b (4 + 4 * i)⟩

/-- The number of argument bytes of a request kind, which for a varying list depends on its count byte (R170);
none for an unrecognised kind code (R169). -/
def argumentLength (code : Nat) (b : List Byte) : Option Nat :=
  match code with
  | 1 => some 40
  | 2 => some (2 + fieldNat 1 b 1)
  | 3 => some 2
  | 4 => some 37
  | 5 => some 1
  | 6 => some 0
  | 7 => some 11
  | 8 => some 7
  | 9 => some 10
  | 10 => some 1
  | 11 => some 5
  | 12 => some 1
  | 13 => some 0
  | 14 => some 5
  | 15 => some 2
  | 16 => some (1 + 4 * fieldNat 1 b 0)
  | 17 => some 10
  | 18 => some 18
  | 19 => some 1
  | 20 => some 3
  | 21 => some 13
  | 22 => some 1
  | 23 => some 1
  | 24 => some 0
  | 25 => some 0
  | 26 => some 0
  | _ => none

/-- The request of a kind code with its argument bytes, in the order of the request index (12 section 12.1);
none for an unrecognised code. -/
def requestOf (tag : Byte) (code : Nat) (b : List Byte) : Option Instr :=
  match code with
  | 1 => some (.motionSetup tag (readMotionArgs b))
  | 2 => some (.imuWrite tag (fieldNat 1 b 0) (b.drop 2))
  | 3 => some (.imuRead tag (fieldNat 1 b 0) (fieldNat 1 b 1))
  | 4 => some (.lensTable tag (fieldName [.h, .v] b 0) (fieldNat 2 b 1) (Vector.ofFn fun i => fieldNat 2 b (3 + 2 * i)))
  | 5 => some (.steadyMode tag (fieldName [.off, .on] b 0))
  | 6 => some (.recenter tag)
  | 7 => some (.loadGeometry tag (readGeometry b))
  | 8 => some (.clipArm tag (fieldNat 1 b 0) (fieldNat 2 b 1) (fieldName onOffNames b 3) (readOptional 2 b 4))
  | 9 => some (.extentAdd tag (fieldNat 1 b 0) (fieldName [.video, .track] b 1) (fieldNat 4 b 2) (fieldNat 4 b 6))
  | 10 => some (.clipStart tag (fieldNat 1 b 0))
  | 11 => some (.clipStop tag (fieldNat 1 b 0) (BitVec.ofNat 32 (fieldNat 4 b 1)))
  | 12 => some (.clipDrop tag (fieldNat 1 b 0))
  | 13 => some (.cardRescan tag)
  | 14 => some (.cardSetup tag (fieldNat 1 b 0) (fieldNat 2 b 1) (fieldNat 2 b 3))
  | 15 => some (.currentRate tag (fieldNat 2 b 0))
  | 16 => some (.scanList tag (readScanArgs b))
  | 17 => some (.counterSet tag ⟨fieldNat 2 b 0, fieldNat 4 b 2, fieldNat 2 b 6, fieldNat 2 b 8⟩)
  | 18 => some (.protectSetup tag (readProtectArgs b))
  | 19 => some (.dischargeSwitch tag (fieldName offOnNames b 0))
  | 20 => some (.balanceSet tag (readBalanceArg b))
  | 21 => some (.chargeSetup tag (readChargeSettings b))
  | 22 => some (.chargeInhibit tag (fieldName offOnNames b 0))
  | 23 => some (.pathReset tag (fieldName yesNoNames b 0))
  | 24 => some (.identify tag)
  | 25 => some (.statusRead tag)
  | 26 => some (.energyRead tag)
  | _ => none

/-- A CONTROL payload that has passed its check: no code or an unrecognised one, or an argument length wrong for its
kind, is the link interface's own to answer; otherwise it is the owner's request (R169). -/
def controlCommand (tag : Byte) (payload : List Byte) : Instr :=
  match payload with
  | [] => .unknownRequest tag none
  | code :: args =>
    if argumentLength code.toNat args = some args.length then
      (requestOf tag code.toNat args).getD (.unknownRequest tag (some code))
    else .unknownRequest tag (some code)

/-! ### Packets -/

/-- The i-th 512-byte block of a payload. -/
def blockAt (bytes : List Byte) (i : Nat) : Block := Vector.ofFn fun j => bytes.getD (512 * i + j) 0

/-- The n blocks of a payload, in card order. -/
def blocksOf (n : Nat) (bytes : List Byte) : List Block := (List.range n).map (blockAt bytes)

/-- The payload of a packet, when its length is the one its header implies and its check agrees (R169). -/
def goodPayload (packet : List Byte) (length : Nat) : Option (List Byte) :=
  let payload := (packet.drop 10).dropLast.dropLast.dropLast.dropLast
  if packet.length = length + 14 ∧ fieldNat 4 packet (length + 10) = (check32 payload).toNat then some payload else none

/-- Whether the header's check agrees with its bytes 0 to 7 (R169). A packet of fewer than 10 bytes holds no whole header and
is a header error by the model's choice (log 39). -/
def headerGood (packet : List Byte) : Bool :=
  10 ≤ packet.length && fieldNat 2 packet 8 == (check16 (packet.take 8)).toNat

/-- The command that a downstream packet's bytes are (R159, R160, R169). -/
def packetCommand (packet : List Byte) : Instr :=
  let tag := packet.getD 1 0
  let count := fieldNat 1 packet 2
  if headerGood packet then
    match fieldNat 1 packet 0 with
    | 1 =>
      match goodPayload packet count with
      | none => .controlPayloadFailure tag
      | some payload => controlCommand tag payload
    | 2 => .cardRead tag ((goodPayload packet 5).map fun p => ⟨fieldNat 4 p 0, fieldNat 1 p 4⟩)
    | 3 =>
      if tag.toNat ≤ 3 ∧ 1 ≤ count ∧ count ≤ 16 then
        .clipData tag.toNat count ((goodPayload packet (512 * count)).map (blocksOf count))
      else .headerError
    | 4 =>
      if 1 ≤ count ∧ count ≤ 16 then
        .plainWrite (fieldNat 4 packet 4) count ((goodPayload packet (512 * count)).map (blocksOf count))
      else .headerError
    | _ => .headerError
  else .headerError

end Sys2Proof
end

