-- ==== Sys2Proof/Config.lean ====
section
/-! DEFINITION. What the JB460 fixes: the intervals, capacities and codes that the rules give as plain numbers.
The spec leaves no result of a command undefined, so no free value stands here (log 25). -/

namespace Sys2Proof.Config

/-- Silence watch, 50,000 µs (R5). -/
def silenceUs : Nat := 50000
/-- Longest interval handed to the engine, 4000 µs (R8), and the age above which shake is stale (R29). -/
def maxIntervalUs : Nat := 4000
/-- Units of the carry in one microradian (R18). -/
def carryUnit : Int := 16000000
/-- Denominator of the leak coefficient, 2^28 (R20). -/
def leakUnit : Int := 268435456
/-- Lines the frame stream holds (R45, R51). -/
def streamLines : Nat := 4
/-- Block slots of the write buffer (R74). -/
def bufferBlocks : Nat := 128
/-- Entries of the write queue (R76). -/
def queueEntries : Nat := 64
/-- Write queue entries that may come from packets (R76). -/
def packetEntries : Nat := 56
/-- Video extents of one slot (R58). -/
def videoExtents : Nat := 16
/-- Reads outstanding at once (R91). -/
def readsOutstanding : Nat := 3
/-- Card-detect debounce, 50,000 µs (R78). -/
def debounceUs : Nat := 50000
/-- Start deadline, 1,000,000 µs (R79). -/
def startUs : Nat := 1000000
/-- Response deadline, 10,000 µs (R79, R82). -/
def responseUs : Nat := 10000
/-- Uncounted retries of one transaction (R86). -/
def uncountedLimit : Nat := 8
/-- Most blocks of one WRITE transaction (R85). -/
def writeBlocks : Nat := 64
/-- Failed transactions in a row that fail the card (R89). -/
def failuresToFail : Nat := 3
/-- Most frames a stop frame may lie ahead of the frame counter (R63). -/
def stopAhead : Nat := 1024
/-- Records of one track buffer (R98). -/
def bufferRecords : Nat := 8
/-- Capacity of a block in blocks of the card: 2^32 (R79). -/
def maxCapacity : Nat := 4294967296
/-- mA·µs in one µAh (R120). -/
def chargeUnit : Int := 3600000
/-- Current trip hold-off, 1000 ms (R130). -/
def holdoffMs : Nat := 1000
/-- Lockout window, 10,000 ms (R131). -/
def lockoutWindowMs : Nat := 10000
/-- Early warning before the DUV cut, 1500 ms (R128). -/
def warningMs : Nat := 1500
/-- PROTECT SETUP transfer, 2 ms (R134). -/
def transferMs : Nat := 2
/-- Path reset interval, 2 ms (R156). -/
def pathResetMs : Nat := 2
/-- QUALIFY, 500 ms (R139). -/
def qualifyMs : Nat := 500
/-- Zero deadline, 2000 ms, and weak-clear deadline, 5000 ms (R146). -/
def zeroMs : Nat := 2000
/-- See zeroMs. -/
def weakClearMs : Nat := 5000
/-- Low currents in a row that end CV (R141). -/
def terminationCount : Nat := 10
/-- Requests outstanding at once (R161). -/
def outstandingLimit : Nat := 8
/-- Notices the notice queue holds (R163). -/
def noticeLimit : Nat := 16
/-- Largest value of lost since last sent (R163). -/
def lostMax : Nat := 65535
/-- Cells sent between two frame-stream units while one is ready (R165). -/
def cellsBetween : Nat := 2
/-- IDENTIFY: family code, part number, revision (R166). -/
def familyCode : Nat := 43
/-- See familyCode. -/
def partNumber : Nat := 460
/-- See familyCode. -/
def revision : Nat := 3
/-- Format code of the summary block, 0x4A53 (R105, R171). -/
def summaryFormat : Nat := 19027

end Sys2Proof.Config
end

