-- ==== Sys2Proof/Machine/State.lean ====
section
/-! DEFINITION. The state of the JB460: everything the spec gives the part, block by block, as plain data, with the
values after a path reset and after POR. The path domain and the monitor domain are one structure each, since a path
reset replaces the one and leaves the other (R154). -/

namespace Sys2Proof.Machine

/-- Reasons for which the part would stop: none. The spec describes no event that stops it; a refused request is
answered with a reply code, a discarded packet with a notice, and an event the state does not admit is ignored (log 4).
With no constructor, no step can fault: safe. -/
inductive Fault
deriving DecidableEq, Repr

/-- Reasons for which the model itself gives no meaning. -/
inductive Refusal where
  /-- An arm of exec whose command has no meaning yet: raised by no arm of this model. Safe: the run stops. -/
  | notModelled (mnemonic : String)
deriving DecidableEq, Repr

/-! ### Motion intake (01) -/

/-- The whole motion setup: intake fields and steadying fields (01 section 1.2, 02 section 2.3). -/
structure MotionSetup where
  enable : Bool
  startAddress : Nat
  order : ByteOrder
  axes : PerAxis GyroAxis
  signs : PerAxis Sign
  bias : PerAxis Int
  threshold : Nat
  holdMs : Nat
  rate : PerAxis Nat
  leak : PerAxis Nat
  limit : PerAxis Nat
deriving DecidableEq, Repr

/-- The setup a path reset makes active (R2). -/
def MotionSetup.afterReset : MotionSetup where
  enable := false
  startAddress := 0
  order := .highFirst
  axes := ⟨.z, .y, .x⟩
  signs := ⟨.plus, .plus, .plus⟩
  bias := ⟨0, 0, 0⟩
  threshold := 0
  holdMs := 30
  rate := ⟨16, 16, 16⟩
  leak := ⟨0, 0, 0⟩
  limit := ⟨2000000, 2000000, 2000000⟩

/-- Intake states (01 section 1.3). -/
inductive IntakeState where | stopped | running | silent
deriving DecidableEq, Repr

/-- Occupancy of the inertial port, with the SPI transfer that occupies it (R6, R13, R14). -/
inductive Port where
  | free
  | sampleRead (stamp : Time) (startAddress : Nat) (order : ByteOrder)
  | passWrite (tag : Byte) (address : Nat) (data : List Byte)
  | passRead (tag : Byte) (address count : Nat)
deriving DecidableEq, Repr

/-- The last sample record (R8); the interval is absent for a reference-only sample. -/
structure Sample where
  stamp : Time
  interval : Option Nat
  rates : PerAxis Int
  accelSum : Nat
deriving DecidableEq, Repr

/-- The state of the motion intake (01). -/
structure Intake where
  timestamp : Time
  state : IntakeState
  active : MotionSetup
  pending : Option MotionSetup
  port : Port
  reference : Option Time
  lastSample : Option Sample
  silence : Option Time
  lastEdge : Option Time
  shockHold : Option Time
  framePeak : Nat
  /-- The model's own: the largest accelerometer sum taken in while the pixel path is IDLE, which counts for the next frame
  that starts (R12, R39, log 35). -/
  idlePeak : Nat
  overruns : Nat
  gaps : Nat
  silentEntries : Nat
  /-- The model's own: the last sample awaits its SAMPLE_INTEGRATION (R17, log 9). -/
  integrationDue : Bool
deriving DecidableEq, Repr

/-- The intake after a path reset (01, head table). -/
def Intake.afterReset : Intake where
  timestamp := 0
  state := .stopped
  active := .afterReset
  pending := none
  port := .free
  reference := none
  lastSample := none
  silence := none
  lastEdge := none
  shockHold := none
  framePeak := 0
  idlePeak := 0
  overruns := 0
  gaps := 0
  silentEntries := 0
  integrationDue := false

/-! ### Steadying engine (02) -/

/-- A lens table: step D and entries E[0] to E[16] (R23). -/
structure LensTable where
  spacing : Nat
  entries : Vector Nat 17
deriving DecidableEq, Repr

/-- The motion-side frame flags (R30). -/
structure FrameFlags where
  edge : Bool
  clipped : Bool
  gap : Bool
  stale : Bool
  shock : Bool
  bypass : Bool
deriving DecidableEq, Repr

/-- The empty set of frame flags. -/
def FrameFlags.empty : FrameFlags := ⟨false, false, false, false, false, false⟩

/-- The state of the steadying engine (02). The active K, a and S_lim are those of the intake's active setup. -/
structure Engine where
  shake : PerAxis Int
  carry : PerAxis Int
  lensH : Option LensTable
  lensV : Option LensTable
  pendingH : Option LensTable
  pendingV : Option LensTable
  mode : Mode
  modeRequest : Option Mode
  recentrePending : Bool
  flags : FrameFlags
deriving DecidableEq, Repr

/-- The engine after a path reset (02, head table). -/
def Engine.afterReset : Engine where
  shake := ⟨0, 0, 0⟩
  carry := ⟨0, 0, 0⟩
  lensH := none
  lensV := none
  pendingH := none
  pendingV := none
  mode := .off
  modeRequest := none
  recentrePending := false
  flags := .empty

/-! ### Frame window (03) -/

/-- Pixel path states (03 section 3.2). -/
inductive PixelPath where | idle | inFrame | between
deriving DecidableEq, Repr

/-- The context of the frame in progress (03 section 3.4), with the shake read at its start (R26). -/
structure OpenFrame where
  number : FrameNo
  start : Time
  geometry : Geometry
  x0 : Nat
  y0 : Nat
  bands : Vector Nat 16
  rows : Nat
  lines : Nat
  shortLine : Bool
  shake : PerAxis Int
deriving DecidableEq, Repr

/-- The flags of a frame record: the engine's and the frame window's two (R50). -/
structure RecordFlags where
  motion : FrameFlags
  shortLine : Bool
  shortFrame : Bool
deriving DecidableEq, Repr

/-- A frame record (R50); band count 0 only in a padding record (R104). -/
structure FrameRecord where
  number : FrameNo
  start : Time
  x0 : Nat
  y0 : Nat
  lines : Nat
  bandCount : Nat
  flags : RecordFlags
  shake : PerAxis Int
  peak : Nat
  bands : Vector Nat 16
deriving DecidableEq, Repr

/-- A padding record: every field 0 (R104). -/
def FrameRecord.padding : FrameRecord :=
  ⟨0, 0, 0, 0, 0, 0, ⟨.empty, false, false⟩, ⟨0, 0, 0⟩, 0, Vector.replicate 16 0⟩

/-- The state of the frame window (03). -/
structure Window where
  geometry : Option Geometry
  pending : Option Geometry
  path : PixelPath
  discardMarker : Bool
  frameCounter : FrameNo
  generation : BitVec 16
  frame : Option OpenFrame
  lastBegun : Option FrameNo
  watch : Option Time
  unsetFrames : Nat
  orphanLines : Nat
  shortFrames : Nat
  stalls : Nat
deriving DecidableEq, Repr

/-- The frame window after a path reset (R55). -/
def Window.afterReset : Window where
  geometry := none
  pending := none
  path := .idle
  discardMarker := false
  frameCounter := 0
  generation := 0
  frame := none
  lastBegun := none
  watch := none
  unsetFrames := 0
  orphanLines := 0
  shortFrames := 0
  stalls := 0

/-! ### Clip table and track assembler (04, 06) -/

/-- Clip slot states (04 section 4.1). -/
inductive SlotState where | free | armed | recording | closing
deriving DecidableEq, Repr

/-- A run of consecutive card blocks (04 section 4.3). -/
structure Extent where
  start : Nat
  length : Nat
deriving DecidableEq, Repr

/-- A cursor over an extent list: the current extent's index and the next block; no next block past the last extent. -/
structure Cursor where
  index : Nat
  next : Option Nat
deriving DecidableEq, Repr

/-- Seal causes (R63, R108). -/
inductive SealCause where | stop | power
deriving DecidableEq, Repr

/-- The summary of a clip (R105): the slot's record as it stood at step 4. -/
structure Summary where
  clip : Nat
  cause : Option SealCause
  track : Bool
  startFrame : Option FrameNo
  stopFrame : Option FrameNo
  firstStamp : Option Time
  accepted : Nat
  written : Nat
  faults : Nat
  firstFault : Option Nat
  gaps : Nat
  recordsWritten : Nat
  recordsLost : Nat
  video : List Extent
  trackList : List Extent
deriving DecidableEq, Repr

/-- A track buffer (R96). -/
inductive TrackBuffer where
  | free
  | filling (records : List FrameRecord)
  | queuedTrack (records : List FrameRecord)
  | queuedSummary (summary : Summary)
deriving DecidableEq, Repr

/-- Closing steps (06 section 6.4). Step 4 begins and ends inside SUMMARY_BUILD (log 11). -/
inductive ClosingStep where | none | owed | pad | drain | build | sealing
deriving DecidableEq, Repr

/-- A clip slot: the clip table's record (04 section 4.1) and the track assembler's state for it (06). -/
structure Slot where
  state : SlotState
  clip : Nat
  track : Bool
  lowWater : Nat
  spaceLowArmed : Bool
  startFrame : Option FrameNo
  stopFrame : Option FrameNo
  video : List Extent
  videoCursor : Cursor
  trackList : List Extent
  accepted : Nat
  written : Nat
  gaps : Nat
  faults : Nat
  firstFault : Option Nat
  recordsWritten : Nat
  recordsLost : Nat
  cause : Option SealCause
  buffers : Vector TrackBuffer 2
  nextTrack : Option FrameNo
  trackCursor : Cursor
  firstStamp : Option Time
  step : ClosingStep
deriving DecidableEq, Repr

/-- A FREE slot: every field emptied (R56). Track off, low-water 0 and SPACE LOW not armed are the model's choice (log 26). -/
def Slot.freed : Slot where
  state := .free
  clip := 0
  track := false
  lowWater := 0
  spaceLowArmed := false
  startFrame := none
  stopFrame := none
  video := []
  videoCursor := ⟨0, none⟩
  trackList := []
  accepted := 0
  written := 0
  gaps := 0
  faults := 0
  firstFault := none
  recordsWritten := 0
  recordsLost := 0
  cause := none
  buffers := Vector.replicate 2 .free
  nextTrack := none
  trackCursor := ⟨0, none⟩
  firstStamp := none
  step := .none

/-! ### Write queue and card engine (05) -/

/-- The stream of a slot's queue entry (R76). -/
inductive EntryStream where | video | track | summary
deriving DecidableEq, Repr

/-- The owner of a queue entry (R76). -/
inductive Owner where
  | slot (slot : Fin 4) (stream : EntryStream)
  | plain
deriving DecidableEq, Repr

/-- The data of a queue entry: write buffer slots, held as their blocks (log 10), or a track buffer of the slot. -/
inductive EntryData where
  | blocks (blocks : List Block)
  | buffer (index : Fin 2)
deriving DecidableEq, Repr

/-- A write queue entry (R76). -/
structure Entry where
  seq : BitVec 32
  owner : Owner
  start : Nat
  count : Nat
  data : EntryData
deriving DecidableEq, Repr

/-- Card states (05 section 5.3). -/
inductive CardState where | absent | starting | ready | failed
deriving DecidableEq, Repr

/-- Causes of a change of card state (05 section 5.3). -/
inductive CardCause where | inserted | started | startFailed | rescan | transactions | removed
deriving DecidableEq, Repr

/-- The steps of the start sequence (R79). -/
inductive StartStep where | resetCommand | poll | capacity
deriving DecidableEq, Repr

/-- Kinds of transaction with their work: a WRITE holds a number of entries from the head of the queue, a READ the
oldest read (05 section 5.5). -/
inductive Work where
  | write (entries : Nat)
  | read
deriving DecidableEq, Repr

/-- Phases of a transaction (05 section 5.5). -/
inductive Phase where | command | data | busy | waitRetry
deriving DecidableEq, Repr

/-- Outcomes of an attempt other than DONE (05 section 5.4). -/
inductive AttemptFailure where | crcError | noResponse | busyTimeout
deriving DecidableEq, Repr

/-- The transaction in flight (05 section 5.5), with the blocks transferred so far and the refused mark of the attempt
in progress (R82). -/
structure Transaction where
  work : Work
  start : Nat
  count : Nat
  phase : Phase
  counted : Nat
  uncounted : Nat
  overlap : Bool
  blocksDone : Nat
  refused : Bool
deriving DecidableEq, Repr

/-- An outstanding read (R91). -/
structure CardRead where
  tag : Byte
  start : Nat
  count : Nat
  fence : Option (BitVec 32)
  wait : Option Time
deriving DecidableEq, Repr

/-- The read buffer (R83, R94). -/
inductive ReadBuffer where
  | free
  | filling (blocks : List Block)
  | sending (tag : Byte) (blocks : List Block) (cellsSent : Nat)
deriving DecidableEq, Repr

/-- How the card engine hands a track buffer back (R77). -/
inductive HandbackResult where | done | failed | removed
deriving DecidableEq, Repr

/-- A handback that the track assembler has yet to take (R100, log 11). -/
structure Handback where
  slot : Fin 4
  buffer : Fin 2
  result : HandbackResult
deriving DecidableEq, Repr

/-- What the engine last sent on the card port (R79, R82, R83). -/
inductive CardSignal where
  | resetCommand
  | poll
  | queryCapacity
  | writeCommand (start count : Nat)
  | readCommand (start count : Nat)
  | dataBlock (index : Nat)
  | stopCommand
deriving DecidableEq, Repr

/-- The state of the write queue and card engine (05). -/
structure Card where
  queue : List Entry
  nextSeq : BitVec 32
  state : CardState
  startStep : StartStep
  capacity : Option Nat
  debounce : Option Time
  startDeadline : Option Time
  response : Option Time
  busy : Option Time
  transaction : Option Transaction
  failures : Nat
  reads : List CardRead
  readBuffer : ReadBuffer
  retryLimit : Nat
  writeTimeout : Nat
  readWait : Nat
  transactions : Nat
  countedRetries : Nat
  uncountedRetries : Nat
  failedTransactions : Nat
  /-- The model's own: handbacks not yet taken (log 11). -/
  handbacks : List Handback
  /-- The model's own: the last signal sent on the card port (log 13). -/
  lastSignal : Option CardSignal
deriving DecidableEq, Repr

/-- The card engine after a path reset (05, head table). -/
def Card.afterReset : Card where
  queue := []
  nextSeq := 0
  state := .absent
  startStep := .resetCommand
  capacity := none
  debounce := none
  startDeadline := none
  response := none
  busy := none
  transaction := none
  failures := 0
  reads := []
  readBuffer := .free
  retryLimit := 3
  writeTimeout := 500
  readWait := 1000
  transactions := 0
  countedRetries := 0
  uncountedRetries := 0
  failedTransactions := 0
  handbacks := []
  lastSignal := none

/-! ### Converter unit (07) -/

/-- A scan list entry (07 section 7.3). -/
structure ScanEntry where
  channel : Channel
  rate : Nat
  discards : Nat
deriving DecidableEq, Repr

/-- The scan list in force after POR (07 section 7.3). -/
def defaultScanList : List ScanEntry :=
  [⟨.cell1, 64, 1⟩, ⟨.cell2, 64, 1⟩, ⟨.input, 64, 1⟩, ⟨.battTemp, 64, 1⟩, ⟨.dieTemp, 64, 1⟩]

/-- A result with the monitor time at which it was taken (R117). -/
structure Measured where
  value : Int
  time : Time
deriving DecidableEq, Repr

/-- The histories, newest first, at most 4 results each (R117). -/
structure Histories where
  current : List Measured
  cell1 : List Measured
  cell2 : List Measured
  input : List Measured
  battTemp : List Measured
  dieTemp : List Measured
  pack : List Measured
deriving DecidableEq, Repr

/-- The state of the converter unit (07). -/
structure Converter where
  time : Time
  /-- The model's own: microseconds since the monitor time last stepped (log 2). -/
  subMs : Nat
  rate : Nat
  pendingRate : Option Nat
  settling : Nat
  scanList : List ScanEntry
  pendingScan : Option (List ScanEntry)
  scanIndex : Nat
  scanDiscards : Nat
  histories : Histories
  charge : Int
  remainder : Int
  seeded : Bool
  capacity : Nat
  reserve : Nat
  lowCell : Nat
deriving DecidableEq, Repr

/-- The converter unit after POR (07, head table). -/
def Converter.afterPor : Converter where
  time := 0
  subMs := 0
  rate := 64
  pendingRate := none
  settling := 2
  scanList := defaultScanList
  pendingScan := none
  scanIndex := 0
  scanDiscards := 1
  histories := ⟨[], [], [], [], [], [], []⟩
  charge := 0
  remainder := 0
  seeded := false
  capacity := 2000
  reserve := 50
  lowCell := 3400

/-! ### Protection unit (08) -/

/-- The protection settings (08 section 8.1). -/
structure ProtectSettings where
  scMa : Nat
  scSteps : Nat
  docMa : Nat
  docMs : Nat
  cocMa : Nat
  cocMs : Nat
  covMv : Nat
  covMs : Nat
  duvMv : Nat
  duvMs : Nat
  autoRecovery : Bool
deriving DecidableEq, Repr

/-- The defaults of 08 section 8.1. -/
def ProtectSettings.default : ProtectSettings := ⟨12000, 4, 5000, 20, 3000, 20, 4300, 1000, 3000, 4000, true⟩

/-- A PROTECT SETUP in transfer (R134). -/
structure Transfer where
  settings : ProtectSettings
  deadline : Time
deriving DecidableEq, Repr

/-- The DUV timer (R128); the warning deadline is removed at its expiry. -/
structure DuvTimer where
  cut : Time
  warning : Option Time
deriving DecidableEq, Repr

/-- Balance modes (R133). -/
inductive BalanceMode where | auto | manual
deriving DecidableEq, Repr

/-- The five switch outputs (R129, R133). -/
structure Switches where
  discharge : Bool
  charge : Bool
  precharge : Bool
  balance1 : Bool
  balance2 : Bool
deriving DecidableEq, Repr

/-- The state of the protection unit (08). -/
structure Protection where
  settings : ProtectSettings
  transfer : Option Transfer
  /-- Time left of the SC delay count, in µs; its steps are of 50 µs (R125, log 21). -/
  scLeft : Option Nat
  doc : Option Time
  coc : Option Time
  cov : Option Time
  duv : Option DuvTimer
  earlyWarning : Bool
  dischargeRequest : Bool
  recoveryArmed : Bool
  dischargeTrip : Bool
  chargeTrip : Bool
  dischargeHoldoff : Option Time
  chargeHoldoff : Option Time
  recentTrips : List Time
  lockout : Bool
  duvCut : Bool
  covBlocking : Bool
  balanceMode : BalanceMode
  manual1 : Bool
  manual2 : Bool
  switches : Switches
deriving DecidableEq, Repr

/-- The protection unit after POR (08, head table). -/
def Protection.afterPor : Protection where
  settings := .default
  transfer := none
  scLeft := none
  doc := none
  coc := none
  cov := none
  duv := none
  earlyWarning := false
  dischargeRequest := true
  recoveryArmed := false
  dischargeTrip := false
  chargeTrip := false
  dischargeHoldoff := none
  chargeHoldoff := none
  recentTrips := []
  lockout := false
  duvCut := false
  covBlocking := false
  balanceMode := .auto
  manual1 := false
  manual2 := false
  switches := ⟨true, false, false, false, false⟩

/-! ### Charger (09) -/

/-- Charger states (09 section 9.2). -/
inductive ChargerState where
  | noInput | inhibited | qualify | precharge | cc | cv | done | hold | fault
deriving DecidableEq, Repr

/-- The precharge and fast timers (R143). -/
inductive ChargeTimer where
  | absent
  | running (deadline : Time)
  | paused (remaining : Time)
deriving DecidableEq, Repr

/-- The hold causes (R145). -/
structure HoldCauses where
  temp : Bool
  die : Bool
  cov : Bool
  inputWeak : Bool
deriving DecidableEq, Repr

/-- No hold cause. -/
def HoldCauses.empty : HoldCauses := ⟨false, false, false, false⟩

/-- Balance demand (R148). -/
inductive Demand where | none | cell1 | cell2
deriving DecidableEq, Repr

/-- The state of the charger (09). -/
structure Charger where
  state : ChargerState
  inputPresent : Bool
  highCount : Nat
  inhibit : Bool
  settings : ChargeSettings
  qualify : Option Time
  prechargeTimer : ChargeTimer
  fastTimer : ChargeTimer
  windowInside : Bool
  dieHot : Bool
  iccEff : Nat
  iFloor : Nat
  zero : Option Time
  weakClear : Option Time
  causes : HoldCauses
  lowCount : Nat
  setpoint : Nat
  demand : Demand
deriving DecidableEq, Repr

/-- The defaults of 09 section 9.1. -/
def defaultChargeSettings : ChargeSettings := ⟨1000, 4200, 100, 3000, 30, 240, 4500⟩

/-- The charger after POR (09, head table). -/
def Charger.afterPor : Charger where
  state := .noInput
  inputPresent := false
  highCount := 0
  inhibit := false
  settings := defaultChargeSettings
  qualify := none
  prechargeTimer := .absent
  fastTimer := .absent
  windowInside := false
  dieHot := false
  iccEff := 1000
  iFloor := 1000
  zero := none
  weakClear := none
  causes := .empty
  lowCount := 0
  setpoint := 0
  demand := .none

/-! ### Energy monitor (10) -/

/-- Energy states (R151). -/
inductive EnergyState where | supplied | battery | low | critical
deriving DecidableEq, Repr

/-- Causes of a path reset (R153, R156, R157). -/
inductive ResetCause where | por | rail | request
deriving DecidableEq, Repr

/-- A retained clip entry (R155); `closing` tells CLOSING from RECORDING. -/
structure RetainedClip where
  slot : Fin 4
  clip : Nat
  closing : Bool
  written : Nat
deriving DecidableEq, Repr

/-- The state of the energy monitor (10). -/
structure Energy where
  state : EnergyState
  railUp : Bool
  cause : ResetCause
  /-- The end of the path reset interval; absent when the path domain is out of reset or unpowered (R156). -/
  resetEnd : Option Time
  retained : List RetainedClip
  reserve : Nat
  lowCell : Nat
deriving DecidableEq, Repr

/-- The energy monitor after POR (10, head table; R156 for the interval). -/
def Energy.afterPor : Energy where
  state := .low
  railUp := true
  cause := .por
  resetEnd := some 2
  retained := []
  reserve := 50
  lowCell := 3400

/-! ### Path link (11) -/

/-- Reply codes, numbered in this order from 0 (00, 12 section 12.2). -/
inductive ReplyCode where
  | ok | accepted | busy | badArg | badState | noSpace | overlap | lowEnergy | noCard | holdoff | tableOrder
  | duplicate | timeout | cardError | outOfRange | badCheck | unknown
deriving DecidableEq, Repr

/-- The fifteen counters of STATUS READ (R166). -/
structure StatusCounters where
  unsetFrames : Nat
  orphanLines : Nat
  shortFrames : Nat
  stalls : Nat
  overruns : Nat
  gaps : Nat
  silentEntries : Nat
  transactions : Nat
  countedRetries : Nat
  uncountedRetries : Nat
  failedTransactions : Nat
  headerErrors : Nat
  payloadErrors : Nat
  requestsLost : Nat
  noticesLost : Nat
deriving DecidableEq, Repr

/-- The snapshot of ENERGY READ (R167). -/
structure EnergySnapshot where
  current : Option Measured
  cell1 : Option Measured
  cell2 : Option Measured
  input : Option Measured
  battTemp : Option Measured
  dieTemp : Option Measured
  pack : Option Measured
  charge : Int
  soc : Int
  seeded : Bool
  charger : ChargerState
  causes : HoldCauses
  setpoint : Nat
  switches : Switches
  dischargeRequest : Bool
  balanceMode : BalanceMode
  dischargeTrip : Bool
  chargeTrip : Bool
  lockout : Bool
  duvCut : Bool
  covBlocking : Bool
  earlyWarning : Bool
  dischargeLeft : Nat
  chargeLeft : Nat
  recentTrips : List Time
  energy : EnergyState
  time : Time
deriving DecidableEq, Repr

/-- Result data of a reply. -/
inductive ReplyData where
  | none
  | bytes (bytes : List Byte)
  | readTag (tag : Byte)
  | identity (family part revision : Nat)
  | counters (counters : StatusCounters)
  | balance (mode : BalanceMode) (manual1 manual2 out1 out2 : Bool)
  | energy (snapshot : EnergySnapshot)
deriving DecidableEq, Repr

/-- A reply: the request's tag, a code and result data (R162). -/
structure Reply where
  tag : Byte
  code : ReplyCode
  data : ReplyData
deriving DecidableEq, Repr

/-- Packet kinds that are requests (R161). -/
inductive RequestKind where | control | cardRead
deriving DecidableEq, Repr

/-- Causes of DATA DISCARDED (R66, R69). -/
inductive DiscardCause where
  | link | badState | noSpace | overrun | queueFull | noCard | outOfRange | overlap
deriving DecidableEq, Repr

/-- Owner of a WRITE FAULT (R88). -/
inductive FaultOwner where
  | slot (slot : Fin 4) (clip : Nat)
  | plain
deriving DecidableEq, Repr

/-- The set of streams a WRITE FAULT names (R88). -/
structure StreamSet where
  video : Bool
  track : Bool
  summary : Bool
deriving DecidableEq, Repr

/-- Causes of CLIP LOST (R107). -/
inductive LossCause where | removed | failed
deriving DecidableEq, Repr

/-- Protection conditions (08 section 8.2). -/
inductive Condition where | sc | doc | coc | cov | duv
deriving DecidableEq, Repr

/-- Actions of PROTECTION TRIP (R135). -/
inductive TripAction where | dischargeOff | chargeOff | chargeBlocked | duvCut
deriving DecidableEq, Repr

/-- What PROTECTION CLEAR says was cleared (R135). -/
inductive Cleared where | dischargeTrip | chargeTrip | lockout | covBlock | duvCut
deriving DecidableEq, Repr

/-- Causes of PROTECTION CLEAR (R135). -/
inductive ClearCause where | holdoffEnd | inputPresent | release
deriving DecidableEq, Repr

/-- Causes of CHARGER STATE (R150). -/
inductive ChargerCause where
  | inputPresent | inputAbsent | inhibitOn | inhibitOff | qualified | prechargeDone | cvReached | terminated
  | recharge | holdEntered | holdCleared | prechargeTimer | fastTimer
deriving DecidableEq, Repr

/-- Causes of ENERGY STATE (R152). -/
inductive EnergyCause where
  | warningBegun | warningEnded | inputPresent | inputAbsent | soc | cell | levels
deriving DecidableEq, Repr

/-- Notices, with the fields their owning rules give (R163), in the order of their kind codes (12 section 12.2). -/
inductive Notice where
  | pathReady (cause : ResetCause) (retained : List RetainedClip) (energy : EnergyState) (charger : ChargerState)
  | sensorStall (state : PixelPath) (lastBegun : Option FrameNo) (lines rows : Option Nat) (frameCounter : FrameNo)
      (stalls : Nat)
  | imuSilent (entered : Time) (lastEdge : Option Time)
  | spaceLow (slot : Fin 4) (clip remaining lowWater : Nat)
  | clipSealed (slot : Fin 4) (summary : Summary) (summaryFailed : Bool)
  | clipLost (slot : Fin 4) (clip : Nat) (state : SlotState) (step : ClosingStep) (cause : LossCause)
      (startFrame stopFrame : Option FrameNo) (accepted written gaps faults : Nat) (firstFault : Option Nat)
  | clipDropped (slot : Fin 4) (clip : Nat) (cause : SealCause)
  | dataDiscarded (slot : Option (Fin 4)) (start : Option Nat) (count : Nat) (cause : DiscardCause) (gaps : Option Nat)
  | writeFault (owner : FaultOwner) (streams : StreamSet) (start count : Nat) (outcome : AttemptFailure) (attempts : Nat)
  | cardState (new old : CardState) (cause : CardCause) (capacity : Option Nat)
  | energyState (new old : EnergyState) (cause : EnergyCause) (soc : Int) (seeded : Bool) (lowerCell : Option Int)
      (time : Time)
  | protectionTrip (condition : Condition) (action : TripAction) (measurement : Option Int) (time : Time)
      (lockout : Bool) (holdoffMs : Nat)
  | protectionClear (cleared : Cleared) (cause : ClearCause) (time : Time) (discharge : Bool)
  | chargerState (new old : ChargerState) (cause : ChargerCause) (causes : HoldCauses) (setpoint : Nat) (time : Time)
  | linkError (headerErrors : Nat) (received : BitVec 16)
  | requestLost (tag : Byte) (kind : RequestKind)
deriving DecidableEq, Repr

/-- The contents of a FRAME HEADER cell (R51). -/
structure FrameHeader where
  number : FrameNo
  start : Time
  x0 : Nat
  y0 : Nat
  w : Nat
  h : Nat
  generation : BitVec 16
  bands : Nat
deriving DecidableEq, Repr

/-- Units of the frame stream (R51). -/
inductive StreamUnit where
  | header (header : FrameHeader)
  | line (index : Nat) (pixels : List Pixel)
  | trailer (record : FrameRecord)
deriving DecidableEq, Repr

/-- Units of the upstream lane (R165, 12 section 12.2). -/
inductive LaneUnit where
  | frame (unit : StreamUnit)
  | reply (reply : Reply) (part : Nat) (last : Bool)
  | readData (tag : Byte) (block part : Nat) (bytes : List Byte)
  | credit (released : BitVec 16)
  | notice (notice : Notice) (lost : Nat)
deriving DecidableEq, Repr

/-- The four classes of cells (11 section 11.5). -/
inductive CellClass where | reply | readData | credit | notice
deriving DecidableEq, Repr

/-- The state of the link interface (11). -/
structure Link where
  outstanding : Nat
  replies : List Reply
  partsSent : Nat
  notices : List Notice
  lostSinceSent : Nat
  received : BitVec 16
  released : BitVec 16
  creditPending : Bool
  stream : List StreamUnit
  pointer : CellClass
  cellsWhileFrame : Nat
  headerErrors : Nat
  payloadErrors : Nat
  requestsLost : Nat
  noticesLost : Nat
  /-- Tag of the PROTECT SETUP whose reply is owed (R134, log 20). -/
  protectTag : Option Byte
  /-- The unit being sent on the upstream lane; none while the lane is free (R161, R164, R165, R168, log 12). -/
  lane : Option LaneUnit
deriving DecidableEq, Repr

/-- The link interface after a path reset (11, head table). -/
def Link.afterReset : Link where
  outstanding := 0
  replies := []
  partsSent := 0
  notices := []
  lostSinceSent := 0
  received := 0
  released := 0
  creditPending := true
  stream := []
  pointer := .credit
  cellsWhileFrame := 0
  headerErrors := 0
  payloadErrors := 0
  requestsLost := 0
  noticesLost := 0
  protectTag := none
  lane := none

/-! ### The two domains and the whole -/

/-- The path domain (00): lost and reset as a whole. -/
structure Path where
  intake : Intake
  engine : Engine
  window : Window
  slots : Vector Slot 4
  card : Card
  link : Link
deriving DecidableEq, Repr

/-- The path domain after every path reset (R154). -/
def Path.afterReset : Path where
  intake := .afterReset
  engine := .afterReset
  window := .afterReset
  slots := Vector.replicate 4 .freed
  card := .afterReset
  link := .afterReset

/-- The monitor domain (00): set by POR, left as it is by a path reset. -/
structure Monitor where
  conv : Converter
  prot : Protection
  chg : Charger
  energy : Energy
deriving DecidableEq, Repr

/-- The monitor domain after POR. -/
def Monitor.afterPor : Monitor := ⟨.afterPor, .afterPor, .afterPor, .afterPor⟩

/-- Levels of the two input pins whose level, not only whose edges, the rules read (R78, R125, log 6). -/
structure Pins where
  cardDetect : Bool
  scSignal : Bool
deriving DecidableEq, Repr

/-- The JB460 and the commands waiting for it, first in, first out. -/
structure State where
  path : Path
  mon : Monitor
  pins : Pins
  pending : List Instr
deriving DecidableEq, Repr

/-- Right after power-on reset: every field at its POR or path-reset value, the 2 ms path reset with cause POR just
begun (R156, log 1), and no command waiting. -/
def State.reset : State where
  path := .afterReset
  mon := .afterPor
  pins := ⟨false, false⟩
  pending := []

end Sys2Proof.Machine
end

