-- ==== Sys2Proof/Machine/Ops.lean ====
section
/-! DEFINITION. The operations that the commands of every block share: time, deadlines and their expiry; the two
domains; slots; the write queue. Requests, replies, notices and credit are in Lane.lean. -/

namespace Sys2Proof.Machine

/-! ### Counters and times -/

/-- A saturating 32-bit counter raised by k (00, Counters). -/
def satAdd (n k : Nat) : Nat := min (n + k) counterMax

/-- t1 is before t2 when (t2 − t1) modulo 2^32 lies between 1 and 2^31 − 1 (R1, R110). -/
def before (t1 t2 : Time) : Bool := decide (1 ≤ (t2 - t1).toNat ∧ (t2 - t1).toNat ≤ 2147483647)

/-- A time plus an interval, modulo 2^32 (R1). -/
def later (t : Time) (n : Nat) : Time := t + BitVec.ofNat 32 n

/-- clamp(v, lo, hi) (00, Arithmetic). -/
def clamp (v lo hi : Int) : Int := if v < lo then lo else if hi < v then hi else v

/-- The timestamp counter (R1). -/
def State.now (s : State) : Time := s.path.intake.timestamp

/-- The monitor time (R110). -/
def State.monNow (s : State) : Time := s.mon.conv.time

/-! ### Parts of the state, rewritten -/

/-- The motion intake rewritten. -/
def State.onIntake (s : State) (f : Intake → Intake) : State := { s with path.intake := f s.path.intake }
/-- The steadying engine rewritten. -/
def State.onEngine (s : State) (f : Engine → Engine) : State := { s with path.engine := f s.path.engine }
/-- The frame window rewritten. -/
def State.onWindow (s : State) (f : Window → Window) : State := { s with path.window := f s.path.window }
/-- The card engine rewritten. -/
def State.onCard (s : State) (f : Card → Card) : State := { s with path.card := f s.path.card }
/-- The link interface rewritten. -/
def State.onLink (s : State) (f : Link → Link) : State := { s with path.link := f s.path.link }
/-- A clip slot. -/
def State.slot (s : State) (i : Fin 4) : Slot := s.path.slots[i]
/-- A clip slot rewritten. -/
def State.onSlot (s : State) (i : Fin 4) (f : Slot → Slot) : State :=
  { s with path.slots := s.path.slots.set i (f (s.slot i)) }
/-- The converter unit rewritten. -/
def State.onConv (s : State) (f : Converter → Converter) : State := { s with mon.conv := f s.mon.conv }
/-- The protection unit rewritten. -/
def State.onProt (s : State) (f : Protection → Protection) : State := { s with mon.prot := f s.mon.prot }
/-- The charger rewritten. -/
def State.onChg (s : State) (f : Charger → Charger) : State := { s with mon.chg := f s.mon.chg }
/-- The energy monitor rewritten. -/
def State.onEnergy (s : State) (f : Energy → Energy) : State := { s with mon.energy := f s.mon.energy }
/-- The pins rewritten. -/
def State.onPins (s : State) (f : Pins → Pins) : State := { s with pins := f s.pins }

/-- The four slots in index order. -/
def slotIndices : List (Fin 4) := [0, 1, 2, 3]

/-- A slot index of a request: 0 to 3, or none (R56). -/
def slotIndex (n : Nat) : Option (Fin 4) := if h : n < 4 then some ⟨n, h⟩ else none

/-! ### The two domains -/

/-- The path domain is powered and out of reset (R135, R152). -/
def State.pathUp (s : State) : Bool := s.mon.energy.railUp && s.mon.energy.resetEnd.isNone

/-- A path reset begins: the path domain takes its reset values, and leaves reset 2 ms later (R154, R156). -/
def State.beginPathReset (s : State) (cause : ResetCause) : State :=
  { s with
    path := .afterReset
    mon.energy.cause := cause
    mon.energy.resetEnd := some (later s.monNow Config.pathResetMs) }

/-- A rail loss: every piece of path-domain state is gone (R153). -/
def State.loseRail (s : State) : State :=
  { s with path := .afterReset, mon.energy.railUp := false, mon.energy.resetEnd := none }

/-- A rail return: UP, and a path reset with cause RAIL begins (R153). -/
def State.returnRail (s : State) : State := (s.beginPathReset .rail).onEnergy fun e => { e with railUp := true }

/-- The rail is UP while the discharge switch output is on or input is present (R153). -/
def State.settleRail (s : State) : State :=
  if s.mon.prot.switches.discharge || s.mon.chg.inputPresent then
    if s.mon.energy.railUp then s else s.returnRail
  else if s.mon.energy.railUp then s.loseRail else s

/-- A step of the path domain, ignored while it is down or in reset (log 4). -/
def State.whenUp (s : State) (body : State → State) : State := if s.pathUp then body s else s

/-! ### Time passing -/

/-- Time passes by some microseconds: the monitor time and the SC delay count always, the timestamp counter while the
path domain is powered and out of reset (R1, R110, R125, log 2). -/
def State.elapse (s : State) (us : Nat) : State :=
  if us = 0 then s
  else
    let t := s.mon.conv.subMs + us
    { s with
      mon.conv.time := later s.mon.conv.time (t / 1000)
      mon.conv.subMs := t % 1000
      mon.prot.scLeft := s.mon.prot.scLeft.map (· - us)
      path.intake.timestamp := if s.pathUp then later s.path.intake.timestamp us else s.path.intake.timestamp }

/-- Microseconds to a path-side deadline; 0 once the counter has arrived. A deadline set at a moment already passed, as a
shock hold whose read completes after edge timestamp + hold (R10), has 0 left and expires at once, by the model's choice
(log 30). -/
def State.pathLeft (s : State) (deadline : Time) : Nat :=
  if before s.now deadline then (deadline - s.now).toNat else 0

/-- Milliseconds to a monitor-side deadline; 0 once the monitor time has arrived. -/
def State.monLeftMs (s : State) (deadline : Time) : Nat :=
  if before s.monNow deadline then (deadline - s.monNow).toNat else 0

/-- Microseconds to a monitor-side deadline; 0 once the monitor time has arrived. -/
def State.monLeft (s : State) (deadline : Time) : Nat := 1000 * s.monLeftMs deadline - s.mon.conv.subMs

/-- The deadline of a running charge timer (R143). -/
def ChargeTimer.deadline (t : ChargeTimer) : Option Time :=
  match t with
  | .running d => some d
  | _ => none

/-- The least of the microseconds left to the waiting reads (R93). -/
def State.readWaitLeft (s : State) : Option Nat :=
  ((s.path.card.reads.filterMap CardRead.wait).map s.pathLeft).min?

/-- Every deadline the part keeps: the command that is its expiry, and the microseconds left when it is set. -/
def State.timers (s : State) : List (Instr × Option Nat) :=
  [ (.pathResetEnd, s.mon.energy.resetEnd.map s.monLeft),
    (.imuSilent, s.path.intake.silence.map s.pathLeft),
    (.shockHoldExpiry, s.path.intake.shockHold.map s.pathLeft),
    (.sensorStall, s.path.window.watch.map s.pathLeft),
    (.cardDebounceExpiry, s.path.card.debounce.map s.pathLeft),
    (.startDeadlineExpiry, s.path.card.startDeadline.map s.pathLeft),
    (.cardResponseTimeout, s.path.card.response.map s.pathLeft),
    (.busyTimeout, s.path.card.busy.map s.pathLeft),
    (.readWaitTimeout, s.readWaitLeft),
    (.scDelayExpiry, s.mon.prot.scLeft),
    (.docTimerExpiry, s.mon.prot.doc.map s.monLeft),
    (.cocTimerExpiry, s.mon.prot.coc.map s.monLeft),
    (.covTimerExpiry, s.mon.prot.cov.map s.monLeft),
    (.duvWarningExpiry, (s.mon.prot.duv.bind DuvTimer.warning).map s.monLeft),
    (.duvCutExpiry, s.mon.prot.duv.map fun t => s.monLeft t.cut),
    (.dischargeHoldoffExpiry, s.mon.prot.dischargeHoldoff.map s.monLeft),
    (.chargeHoldoffExpiry, s.mon.prot.chargeHoldoff.map s.monLeft),
    (.protectTransferExpiry s.pins.scSignal, s.mon.prot.transfer.map fun t => s.monLeft t.deadline),
    (.qualifyDeadlineExpiry, s.mon.chg.qualify.map s.monLeft),
    (.prechargeTimerExpiry, s.mon.chg.prechargeTimer.deadline.map s.monLeft),
    (.fastTimerExpiry, s.mon.chg.fastTimer.deadline.map s.monLeft),
    (.zeroDeadlineExpiry, s.mon.chg.zero.map s.monLeft),
    (.weakClearExpiry, s.mon.chg.weakClear.map s.monLeft) ]

/-- No set deadline lies before the moment `us` microseconds from now. -/
def State.nothingEarlier (s : State) (us : Nat) : Bool :=
  s.timers.all fun t => match t.2 with
    | none => true
    | some left => decide (us ≤ left)

/-- An expiry: the counter arrives at the deadline and its owner acts (R1, R110). The command is ignored when the
deadline is not set, and when another set deadline lies before it, whose expiry has to come first (log 3). -/
def State.expiry (s : State) (left : Option Nat) (act : State → State) : State :=
  match left with
  | none => s
  | some us => if s.nothingEarlier us then act (s.elapse us) else s

/-! ### The retained clip list (R155) -/

/-- An entry is added, in slot index order. -/
def insertRetained (c : RetainedClip) (list : List RetainedClip) : List RetainedClip :=
  list.filter (fun x => decide (x.slot < c.slot)) ++ c :: list.filter (fun x => decide (c.slot < x.slot))

/-- CLIP START adds the slot's entry. -/
def State.retain (s : State) (i : Fin 4) (clip : Nat) : State :=
  s.onEnergy fun e => { e with retained := insertRetained ⟨i, clip, false, 0⟩ e.retained }

/-- Entry to CLOSING changes the slot's entry. -/
def State.retainClosing (s : State) (i : Fin 4) : State :=
  s.onEnergy fun e =>
    { e with retained := e.retained.map fun c => if c.slot = i then { c with closing := true } else c }

/-- A completed VIDEO entry gives the slot's entry the new video blocks written. -/
def State.retainWritten (s : State) (i : Fin 4) (written : Nat) : State :=
  s.onEnergy fun e =>
    { e with retained := e.retained.map fun c => if c.slot = i then { c with written := written } else c }

/-- Seal or loss removes the slot's entry. -/
def State.unretain (s : State) (i : Fin 4) : State :=
  s.onEnergy fun e => { e with retained := e.retained.filter fun c => decide (c.slot ≠ i) }

/-! ### Clip slots as other blocks see them -/

/-- Some slot is RECORDING or CLOSING (R37, R41). -/
def State.clipBusy (s : State) : Bool :=
  slotIndices.any fun i => (s.slot i).state == .recording || (s.slot i).state == .closing

/-- Two runs of blocks overlap when some block lies in both (R59). -/
def overlaps (a n b m : Nat) : Bool := decide (a < b + m ∧ b < a + n)

/-- A run of blocks overlaps an extent of a slot that is not FREE (R59). -/
def State.overlapsExtent (s : State) (a n : Nat) : Bool :=
  slotIndices.any fun i =>
    (s.slot i).state != .free &&
      ((s.slot i).video ++ (s.slot i).trackList).any fun e => overlaps a n e.start e.length

/-! ### The write queue as other blocks see it -/

/-- The entry comes from a packet: VIDEO or PLAIN (R76). -/
def Entry.fromPacket (e : Entry) : Bool :=
  match e.owner with
  | .plain => true
  | .slot _ .video => true
  | .slot _ _ => false

/-- The slot that owns the entry. -/
def Entry.slot? (e : Entry) : Option (Fin 4) :=
  match e.owner with
  | .plain => none
  | .slot i _ => some i

/-- Write buffer blocks that a list of entries holds (R74). -/
def heldBlocks (queue : List Entry) : Nat := ((queue.filter Entry.fromPacket).map Entry.count).sum

/-- Free write buffer blocks (R66). -/
def Card.freeBlocks (c : Card) : Nat := Config.bufferBlocks - heldBlocks c.queue

/-- Queue entries open to packets (R66). -/
def Card.openEntries (c : Card) : Nat :=
  min (Config.packetEntries - (c.queue.filter Entry.fromPacket).length) (Config.queueEntries - c.queue.length)

/-- An entry joins the tail with the next sequence number (R76). -/
def Card.join (c : Card) (owner : Owner) (start count : Nat) (data : EntryData) : Card :=
  { c with queue := c.queue ++ [⟨c.nextSeq, owner, start, count, data⟩], nextSeq := c.nextSeq + 1 }

/-- No entry owned by the slot remains in the queue (R104). -/
def Card.drained (c : Card) (i : Fin 4) : Bool := c.queue.all fun e => decide (e.slot? ≠ some i)

/-- The shock hold is running while its deadline is set (R11). -/
def State.shockHeld (s : State) : Bool := s.path.intake.shockHold.isSome

end Sys2Proof.Machine
end

