-- ==== Sys2Proof/Machine/Lane.lean ====
section
/-! DEFINITION. The upstream lane (11 section 11.5): what waits for it, the arbiter's choice of the next unit (R165), the
operations that make a unit ready, each of which has the arbiter choose at once on a free lane, and what the end of a unit
does to the queue it came from (R94, R161, R162). Link.lane is the unit being sent. Which effects of a unit fall at its
choice and which at its end, and the order of the units that one event makes ready, is said in log 12. -/

namespace Sys2Proof.Machine

/-! ### Classes of cells -/

/-- The class after one, in the order REPLY, READ DATA, CREDIT, NOTICE, wrapping round. -/
def CellClass.next (c : CellClass) : CellClass :=
  match c with
  | .reply => .readData
  | .readData => .credit
  | .credit => .notice
  | .notice => .reply

/-- The four classes from one onward (R165). -/
def CellClass.round (c : CellClass) : List CellClass := [c, c.next, c.next.next, c.next.next.next]

/-- The read buffer holds a read with a cell unsent: 8 cells for each block (R94). -/
def ReadBuffer.cellReady (b : ReadBuffer) : Bool :=
  match b with
  | .sending _ blocks sent => decide (sent < 8 * blocks.length)
  | _ => false

/-- The class has a cell ready, with a read buffer beside the link interface (11 section 11.5). -/
def Link.classReady (l : Link) (b : ReadBuffer) (c : CellClass) : Bool :=
  match c with
  | .reply => !l.replies.isEmpty
  | .readData => b.cellReady
  | .credit => l.creditPending
  | .notice => !l.notices.isEmpty

/-- The class a cell would come from: the first with a cell ready, beginning at the class pointer (R165). -/
def Link.cellDue (l : Link) (b : ReadBuffer) : Option CellClass := l.pointer.round.find? (l.classReady b)

/-- The class has a cell ready. -/
def State.classReady (s : State) (c : CellClass) : Bool := s.path.link.classReady s.path.card.readBuffer c

/-- The class a cell would come from. -/
def State.cellDue (s : State) : Option CellClass := s.path.link.cellDue s.path.card.readBuffer

/-- Parts of a reply: ENERGY READ alone has two (R162). -/
def Reply.parts (r : Reply) : Nat :=
  match r.data with
  | .energy _ => 2
  | _ => 1

/-- The 64 bytes of a part of a block. -/
def partBytes (b : Block) (part : Nat) : List Byte := (b.toList.drop (64 * part)).take 64

/-! ### The beginning of a unit -/

/-- The frame stream's next unit enters the lane; it is in the stream until it has been sent (R51, R165 step 2). -/
def Link.beginFrame (l : Link) : Link := { l with cellsWhileFrame := 0, lane := l.stream.head?.map .frame }

/-- The next part of the reply at the head enters the lane (R162). -/
def Link.beginReply (l : Link) : Link :=
  { l with lane := l.replies.head?.map fun r => .reply r l.partsSent (decide (r.parts ≤ l.partsSent + 1)) }

/-- The CREDIT cell enters the lane with the released total as it stands (R164). -/
def Link.beginCredit (l : Link) : Link := { l with creditPending := false, lane := some (.credit l.released) }

/-- The notice at the head leaves the queue and enters the lane with the count lost since the last (R163), PATH READY too where
notices were lost before its cell began (log 38). -/
def Link.beginNotice (l : Link) : Link :=
  match l.notices with
  | [] => l
  | n :: rest => { l with notices := rest, lostSinceSent := 0, lane := some (.notice n l.lostSinceSent) }

/-- The next READ DATA cell of a read buffer, in block order and part order (R94). -/
def ReadBuffer.nextCell (b : ReadBuffer) : Option LaneUnit :=
  match b with
  | .sending tag blocks sent =>
    blocks[sent / 8]?.map fun block => .readData tag (sent / 8) (sent % 8) (partBytes block (sent % 8))
  | _ => none

/-- A cell of a class enters the lane, and the class pointer moves to the class after it (R165). -/
def Link.beginCell (l : Link) (b : ReadBuffer) (c : CellClass) : Link :=
  { (match c with
      | .reply => l.beginReply
      | .readData => { l with lane := b.nextCell }
      | .credit => l.beginCredit
      | .notice => l.beginNotice) with pointer := c.next }

/-- The lane arbiter's choice, made while the lane is free, when it becomes so and when a unit becomes ready: R165, steps 1
to 4. A unit being sent is not cut short. -/
def Link.choose (l : Link) (b : ReadBuffer) : Link :=
  if l.lane.isSome then l
  else
    match l.stream.isEmpty, l.cellDue b with
    | true, none => l
    | true, some c => l.beginCell b c
    | false, none => l.beginFrame
    | false, some c =>
      if l.cellsWhileFrame < Config.cellsBetween then
        { l.beginCell b c with cellsWhileFrame := l.cellsWhileFrame + 1 }
      else l.beginFrame

/-- A cell of a class enters the lane. -/
def State.beginCell (s : State) (c : CellClass) : State := s.onLink fun l => l.beginCell s.path.card.readBuffer c

/-- The lane arbiter's choice (R165). -/
def State.chooseUnit (s : State) : State := s.onLink fun l => l.choose s.path.card.readBuffer

/-! ### Notices, replies, credit -/

/-- An offer to the notice queue, dropped and counted when 16 are held (R163). -/
def Link.offer (l : Link) (n : Notice) : Link :=
  if l.notices.length < Config.noticeLimit then { l with notices := l.notices ++ [n] }
  else { l with lostSinceSent := min (l.lostSinceSent + 1) Config.lostMax, noticesLost := satAdd l.noticesLost 1 }

/-- A notice is offered while the path domain is powered and out of reset, and otherwise neither offered nor counted
(R135, R152); on a free lane the arbiter chooses at once (R165). -/
def State.notify (s : State) (n : Notice) : State :=
  if s.pathUp then (s.onLink fun l => l.offer n).chooseUnit else s

/-- A reply joins the tail of the reply queue (R162), and on a free lane the arbiter chooses at once (R165); it is lost with
a path domain that the request itself removed (R132). -/
def State.reply (s : State) (tag : Byte) (code : ReplyCode) (data : ReplyData) : State :=
  if s.pathUp then (s.onLink fun l => { l with replies := l.replies ++ [⟨tag, code, data⟩] }).chooseUnit else s

/-- A reply without result data. -/
def State.answer (s : State) (tag : Byte) (code : ReplyCode) : State := s.reply tag code .none

/-- A request with a good header: taken with fewer than 8 outstanding, otherwise lost and noticed (R161). While the
path domain is down or in reset nothing is taken (R168). -/
def State.request (s : State) (tag : Byte) (kind : RequestKind) (body : State → State) : State :=
  if s.pathUp then
    if s.path.link.outstanding < Config.outstandingLimit then
      body (s.onLink fun l => { l with outstanding := l.outstanding + 1 })
    else (s.onLink fun l => { l with requestsLost := satAdd l.requestsLost 1 }).notify (.requestLost tag kind)
  else s

/-- The released total rises by n and credit becomes pending (R75, R164); on a free lane the arbiter chooses at once
(R165). -/
def State.release (s : State) (n : Nat) : State :=
  if n = 0 then s
  else
    (s.onLink fun l => { l with released := l.released + BitVec.ofNat 16 n, creditPending := true }).chooseUnit

/-- The received total rises by n (R75). -/
def State.receive (s : State) (n : Nat) : State :=
  s.onLink fun l => { l with received := l.received + BitVec.ofNat 16 n }

/-- A unit is handed to the frame stream (R51); on a free lane the arbiter chooses at once (R165). -/
def State.pushStream (s : State) (u : StreamUnit) : State :=
  (s.onLink fun l => { l with stream := l.stream ++ [u] }).chooseUnit

/-- The data of a read is offered as READ DATA cells (R94); on a free lane the arbiter chooses at once (R165). -/
def State.offerRead (s : State) (tag : Byte) (blocks : List Block) : State :=
  (s.onCard fun c => { c with readBuffer := .sending tag blocks 0 }).chooseUnit

/-! ### The end of a unit -/

/-- A part of the reply at the head has been sent; with its last part the reply leaves, and its request is no longer
outstanding (R161, R162). -/
def Link.endReply (l : Link) : Link :=
  match l.replies with
  | [] => l
  | r :: rest =>
    if l.partsSent + 1 < r.parts then { l with partsSent := l.partsSent + 1 }
    else { l with replies := rest, partsSent := 0, outstanding := l.outstanding - 1 }

/-- The last cell of a read: the buffer is free, the read leaves, and its OK is offered (R94). -/
def State.endRead (s : State) (tag : Byte) : State :=
  (s.onCard fun c => { c with readBuffer := .free, reads := c.reads.drop 1 }).answer tag .ok

/-- A READ DATA cell has been sent (R94). -/
def State.endReadData (s : State) : State :=
  match s.path.card.readBuffer with
  | .sending tag blocks sent =>
    if sent + 1 < 8 * blocks.length then s.onCard fun c => { c with readBuffer := .sending tag blocks (sent + 1) }
    else s.endRead tag
  | _ => s

/-- The unit in the lane has been sent, and the lane is free. -/
def State.endUnit (s : State) : State :=
  (match s.path.link.lane with
    | some (.frame _) => s.onLink fun l => { l with stream := l.stream.drop 1 }
    | some (.reply _ _ _) => s.onLink Link.endReply
    | some (.readData _ _ _ _) => s.endReadData
    | some (.credit _) => s
    | some (.notice _ _) => s
    | none => s).onLink fun l => { l with lane := none }

/-- UPSTREAM_UNIT_SENT: the unit being sent comes to its end, and the arbiter chooses the next (R165, log 12). A free lane
has no unit ready, so that nothing changes there (log 4). -/
def execUpstreamUnitSent (s : State) : Host.Outcome State Fault Refusal :=
  .next (s.whenUp fun s => s.endUnit.chooseUnit)

end Sys2Proof.Machine
end

