-- ==== Sys2Proof/Machine/Flags.lean ====
section
/-! DEFINITION. The flag sets of the JB460: the engine's frame flags (R30), the flags of a frame record (R50, 12
section 12.3) and the hold causes (R145), with the events that add to them and the bytes they are sent as. -/

namespace Sys2Proof.Machine

/-- EDGE is added when a clamp applied (R20, R22, R26, R27). -/
def FrameFlags.addEdge (f : FrameFlags) (clamped : Bool) : FrameFlags := { f with edge := f.edge || clamped }
/-- CLIPPED is added (R9). -/
def FrameFlags.addClipped (f : FrameFlags) (raw : Bool) : FrameFlags := { f with clipped := f.clipped || raw }
/-- GAP is added (R8). -/
def FrameFlags.addGap (f : FrameFlags) (gap : Bool) : FrameFlags := { f with gap := f.gap || gap }
/-- STALE is added (R29). -/
def FrameFlags.addStale (f : FrameFlags) (stale : Bool) : FrameFlags := { f with stale := f.stale || stale }
/-- SHOCK is added (R10). -/
def FrameFlags.addShock (f : FrameFlags) (shock : Bool) : FrameFlags := { f with shock := f.shock || shock }
/-- BYPASS is added (R26). -/
def FrameFlags.addBypass (f : FrameFlags) (bypass : Bool) : FrameFlags := { f with bypass := f.bypass || bypass }

/-- The engine's frame flags rewritten. -/
def State.onFlags (s : State) (f : FrameFlags → FrameFlags) : State :=
  s.onEngine fun e => { e with flags := f e.flags }

/-- A flag's bit in a byte. -/
def flagBit (set : Bool) (weight : Nat) : Nat := if set then weight else 0

/-- The flags byte of a frame record (12 section 12.3). -/
def RecordFlags.toNat (f : RecordFlags) : Nat :=
  flagBit f.motion.edge 1 + flagBit f.motion.clipped 2 + flagBit f.motion.gap 4 + flagBit f.motion.stale 8 +
  flagBit f.motion.shock 16 + flagBit f.shortLine 32 + flagBit f.shortFrame 64 + flagBit f.motion.bypass 128

/-- A hold cause by name (R145). -/
inductive HoldCause where | temp | die | cov | inputWeak
deriving DecidableEq, Repr

/-- The causes with one added or removed (R145). -/
def HoldCauses.put (c : HoldCauses) (cause : HoldCause) (stands : Bool) : HoldCauses :=
  match cause with
  | .temp => { c with temp := stands }
  | .die => { c with die := stands }
  | .cov => { c with cov := stands }
  | .inputWeak => { c with inputWeak := stands }

/-- No cause stands. -/
def HoldCauses.isEmpty (c : HoldCauses) : Bool := !(c.temp || c.die || c.cov || c.inputWeak)

/-- The set of hold causes as a byte, one bit per name: TEMP, DIE and INPUT_WEAK have their numbers 0, 1 and 3 of 09's list,
and COV its number 3 of the conditions of 08, the first list to hold it, so that the last two have one bit (R135, R170,
log 19). -/
def HoldCauses.toNat (c : HoldCauses) : Nat :=
  flagBit c.temp 1 + flagBit c.die 2 + flagBit (c.cov || c.inputWeak) 8

end Sys2Proof.Machine
end

