-- ==== Sys2Proof/Machine/Track.lean ====
section
/-! DEFINITION. The track assembler (06): taking frame records, track blocks, closing, the summary, sealing and loss,
the emergency seal; and its commands. -/

namespace Sys2Proof.Machine

/-! ### Cursors and buffers -/

/-- The cursor after one block: the following block, or the next extent of the list, or past the last (R99). -/
def Cursor.advance (c : Cursor) (list : List Extent) : Cursor :=
  match c.next, list[c.index]? with
  | some b, some e =>
    if b + 1 < e.start + e.length then ⟨c.index, some (b + 1)⟩
    else ⟨c.index + 1, list[c.index + 1]?.map Extent.start⟩
  | _, _ => c

/-- Frame numbers as unsigned differences from a clip's start frame (R44). -/
def frameOffset (start n : FrameNo) : Nat := (n - start).toNat

/-- The real records of a buffer: every frame record has a band count of at least 1 (R104). -/
def realRecords (records : List FrameRecord) : Nat := (records.filter fun r => decide (r.bandCount ≠ 0)).length

/-- The FILLING buffer of a slot, of which there is at most one (R96). -/
def Slot.filling (s : Slot) : Option (Fin 2 × List FrameRecord) :=
  match s.buffers[0], s.buffers[1] with
  | .filling r, _ => some (0, r)
  | _, .filling r => some (1, r)
  | _, _ => none

/-- The FREE buffer that takes a record next, buffer 0 where both are FREE (R98). -/
def Slot.freeBuffer (s : Slot) : Option (Fin 2) :=
  if s.buffers[0] = .free then some 0 else if s.buffers[1] = .free then some 1 else none

/-- A buffer of the slot replaced. -/
def Slot.setBuffer (s : Slot) (b : Fin 2) (t : TrackBuffer) : Slot := { s with buffers := s.buffers.set b t }

/-- A full or padded buffer that is to be written: queued at the next track block, or its real records counted lost
when no track block is left (R99). -/
def State.placeBuffer (s : State) (i : Fin 4) (b : Fin 2) (records : List FrameRecord) : State :=
  match (s.slot i).trackCursor.next with
  | some block =>
    (s.onSlot i fun sl =>
      { sl.setBuffer b (.queuedTrack records) with trackCursor := sl.trackCursor.advance sl.trackList }).onCard
        fun c => c.join (.slot i .track) block 1 (.buffer b)
  | none =>
    s.onSlot i fun sl =>
      { sl.setBuffer b .free with recordsLost := satAdd sl.recordsLost (realRecords records) }

/-- A record appended to the FILLING buffer, or to a FREE one, or lost at arrival; a full buffer is placed (R98). -/
def State.appendRecord (s : State) (i : Fin 4) (r : FrameRecord) : State :=
  match (s.slot i).filling with
  | some (b, records) =>
    if records.length + 1 = Config.bufferRecords then s.placeBuffer i b (records ++ [r])
    else s.onSlot i fun sl => sl.setBuffer b (.filling (records ++ [r]))
  | none =>
    match (s.slot i).freeBuffer with
    | some b => s.onSlot i fun sl => sl.setBuffer b (.filling [r])
    | none => s.onSlot i fun sl => { sl with recordsLost := satAdd sl.recordsLost 1 }

/-! ### Taking frame records (R97) -/

/-- The conditions of R97 other than the track setting: the slot is RECORDING or CLOSING before step 2, and the number
lies from the start frame up to the stop frame. -/
def Slot.covers (s : Slot) (n : FrameNo) : Bool :=
  (s.state == .recording || s.state == .closing) && (s.step == .none || s.step == .owed) &&
    match s.startFrame with
    | none => false
    | some start =>
      decide (frameOffset start n < 2147483648) &&
        match s.stopFrame with
        | none => true
        | some stop => decide (frameOffset start n < frameOffset start stop)

/-- Step 1 of closing is complete when the next track frame equals the stop frame; the slot goes on to step 2 (R102). -/
def Slot.judgeOwed (s : Slot) : Slot :=
  if s.step = .owed ∧ s.nextTrack = s.stopFrame then { s with step := .pad } else s

/-- A record offered to a slot (R97, R102). A slot with track off notes the timestamp alone. -/
def State.offerRecord (r : FrameRecord) (s : State) (i : Fin 4) : State :=
  if (s.slot i).covers r.number then
    let s := s.onSlot i fun sl =>
      if sl.startFrame = some r.number then { sl with firstStamp := some r.start } else sl
    if (s.slot i).track then
      ((s.onSlot i fun sl => { sl with nextTrack := sl.nextTrack.map (· + 1) }).appendRecord i r).onSlot i Slot.judgeOwed
    else s
  else s

/-- A frame record offered to each slot in slot index order (R97). -/
def State.takeRecord (s : State) (r : FrameRecord) : State := slotIndices.foldl (State.offerRecord r) s

/-! ### Closing (R101 to R103) -/

/-- A stop frame that lies before records already taken is raised to the next track frame (R101). -/
def Slot.raiseStop (s : Slot) : Slot :=
  match s.startFrame, s.stopFrame, s.nextTrack with
  | some start, some stop, some next =>
    if frameOffset start stop < frameOffset start next then { s with stopFrame := some next } else s
  | _, _, _ => s

/-- A stop frame that lies after the frame counter is cut to it (R103). -/
def Slot.cutStop (s : Slot) (counter : FrameNo) : Slot :=
  match s.startFrame, s.stopFrame with
  | some start, some stop =>
    if frameOffset start counter < frameOffset start stop then { s with stopFrame := some counter } else s
  | _, _ => s

/-- The cut of a CLOSING slot at step 1, after which step 1 is judged again (R103). -/
def Slot.cutOwed (s : Slot) (counter : FrameNo) : Slot :=
  if s.state = .closing ∧ s.step = .owed then (s.cutStop counter).judgeOwed else s

/-- The slot's entry to CLOSING with a stop frame and a cause: raised, cut while the pixel path is IDLE, and step 1
judged; with track off it goes straight on to step 2 (R101, R102, R103). -/
def Slot.close (s : Slot) (stop : FrameNo) (cause : SealCause) (idle : Bool) (counter : FrameNo) : Slot :=
  let s := { s with state := .closing, stopFrame := some stop, cause := some cause }
  if s.track then
    let s := s.raiseStop
    let s := if idle then s.cutStop counter else s
    { s with step := .owed }.judgeOwed
  else { s with step := .pad }

/-- A RECORDING slot becomes CLOSING, and its retained entry follows (R63, R108, R155). -/
def State.closeSlot (s : State) (i : Fin 4) (stop : FrameNo) (cause : SealCause) : State :=
  (s.onSlot i fun sl =>
    sl.close stop cause (decide (s.path.window.path = .idle)) s.path.window.frameCounter).retainClosing i

/-- The slot becomes FREE: every field emptied, its clip number and extents given up (R56). -/
def State.freeSlot (s : State) (i : Fin 4) : State := s.onSlot i fun _ => Slot.freed

/-- Owed frames of every slot cut at a stall (R54, R103). -/
def State.cutAllOwed (s : State) : State :=
  slotIndices.foldl (fun s i => s.onSlot i fun sl => sl.cutOwed s.path.window.frameCounter) s

/-- The emergency seal of one slot (R108). -/
def State.sealSlot (s : State) (i : Fin 4) : State :=
  match (s.slot i).state with
  | .free => s
  | .armed => (s.notify (.clipDropped i (s.slot i).clip .power)).freeSlot i
  | .recording => s.closeSlot i s.path.window.frameCounter .power
  | .closing => s.onSlot i fun sl => sl.cutOwed s.path.window.frameCounter

/-- The emergency seal, slot by slot in slot index order (R108). -/
def State.emergencySeal (s : State) : State := slotIndices.foldl State.sealSlot s

/-- A slot lost at a teardown (R107, R72). -/
def State.loseSlot (cause : LossCause) (s : State) (i : Fin 4) : State :=
  let sl := s.slot i
  if sl.state = .free then s
  else
    ((s.notify (.clipLost i sl.clip sl.state sl.step cause sl.startFrame sl.stopFrame sl.accepted sl.written sl.gaps
      sl.faults sl.firstFault)).unretain i).freeSlot i

/-- Every slot that is not FREE is lost, in slot index order (R90). -/
def State.loseSlots (s : State) (cause : LossCause) : State := slotIndices.foldl (State.loseSlot cause) s

/-! ### Commands -/

/-- The slot's record as the summary holds it (R105). -/
def Slot.summary (s : Slot) : Summary where
  clip := s.clip
  cause := s.cause
  track := s.track
  startFrame := s.startFrame
  stopFrame := s.stopFrame
  firstStamp := s.firstStamp
  accepted := s.accepted
  written := s.written
  faults := s.faults
  firstFault := s.firstFault
  gaps := s.gaps
  recordsWritten := s.recordsWritten
  recordsLost := s.recordsLost
  video := s.video
  trackList := s.trackList

/-- The slot is sealed: CLIP SEALED with the values of its summary, and the slot FREE (R106). -/
def State.sealed (s : State) (i : Fin 4) (summary : Summary) (failed : Bool) : State :=
  ((s.notify (.clipSealed i summary failed)).unretain i).freeSlot i

/-- A handback taken by the track assembler (R100, R106). A slot already FREE only has its buffer freed. -/
def State.takeHandback (s : State) (h : Handback) : State :=
  match (s.slot h.slot).state, (s.slot h.slot).buffers[h.buffer] with
  | .free, _ => s.onSlot h.slot fun sl => sl.setBuffer h.buffer .free
  | _, .queuedTrack records =>
    s.onSlot h.slot fun sl =>
      let sl := sl.setBuffer h.buffer .free
      match h.result with
      | .done => { sl with recordsWritten := satAdd sl.recordsWritten (realRecords records) }
      | .failed => { sl with recordsLost := satAdd sl.recordsLost (realRecords records) }
      | .removed => sl
  | _, .queuedSummary summary =>
    match h.result with
    | .done => s.sealed h.slot summary false
    | .failed => s.sealed h.slot summary true
    | .removed => s.onSlot h.slot fun sl => sl.setBuffer h.buffer .free
  | _, _ => s

/-- BUFFER_HANDBACK: the oldest handback that the card engine has given is taken (R100). -/
def execBufferHandback (s : State) : Host.Outcome State Fault Refusal :=
  .next (s.whenUp fun s =>
    match s.path.card.handbacks with
    | [] => s
    | h :: rest => (s.onCard fun c => { c with handbacks := rest }).takeHandback h)

/-- A buffer's empty places receive padding records (R104). -/
def padRecords (records : List FrameRecord) : List FrameRecord :=
  records ++ List.replicate (Config.bufferRecords - records.length) FrameRecord.padding

/-- Step 2 of closing is due (R104). -/
def Slot.padDue (s : Slot) : Bool := s.state == .closing && s.step == .pad

/-- CLOSING_PAD: the FILLING buffer is padded and written, and the slot enters step 3 (R104). -/
def execClosingPad (slot : Fin 4) (s : State) : Host.Outcome State Fault Refusal :=
  .next (s.whenUp fun s =>
    if (s.slot slot).padDue then
      (match (s.slot slot).filling with
        | none => s
        | some (b, records) => s.placeBuffer slot b (padRecords records)).onSlot slot fun sl => { sl with step := .drain }
    else s)

/-- Step 3 of closing is complete: no entry of the slot is queued, and both of its buffers have been handed back
(R104). -/
def State.summaryDue (s : State) (i : Fin 4) : Bool :=
  (s.slot i).state == .closing && (s.slot i).step == .drain && s.path.card.drained i &&
    (s.slot i).buffers[0] == .free && (s.slot i).buffers[1] == .free

/-- SUMMARY_BUILD: the summary is built in buffer 0 and queued at the summary block, the first block of the first track
extent; the slot enters step 5 (R105, R60). -/
def execSummaryBuild (slot : Fin 4) (s : State) : Host.Outcome State Fault Refusal :=
  .next (s.whenUp fun s =>
    match s.summaryDue slot, (s.slot slot).trackList with
    | true, e :: _ =>
      (s.onSlot slot fun sl => { sl.setBuffer 0 (.queuedSummary sl.summary) with step := .sealing }).onCard
        fun c => c.join (.slot slot .summary) e.start 1 (.buffer 0)
    | _, _ => s)

end Sys2Proof.Machine
end

