-- ==== Sys2Proof/Machine/Clip.lean ====
section
/-! DEFINITION. The clip table (04): arming, extents, starting, stopping and dropping; placement of clip data; admission
of plain writes; discards; and its commands. -/

namespace Sys2Proof.Machine

/-! ### Header errors (R159) -/

/-- A packet whose header is in error: counted and noticed, and nothing handed to any block (R159). -/
def State.headerError (s : State) : State :=
  let s := s.onLink fun l => { l with headerErrors := satAdd l.headerErrors 1 }
  s.notify (.linkError s.path.link.headerErrors s.path.link.received)

/-- A payload failure is counted (R160). -/
def State.countPayloadError (s : State) : State :=
  s.onLink fun l => { l with payloadErrors := satAdd l.payloadErrors 1 }

/-! ### Video space (R65, R68) -/

/-- The remaining video space of a slot (R65). -/
def Slot.remaining (s : Slot) : Nat :=
  match s.videoCursor.next, s.video[s.videoCursor.index]? with
  | some b, some e =>
    (e.start + e.length - b) + ((s.video.drop (s.videoCursor.index + 1)).map Extent.length).sum
  | _, _ => 0

/-- The check of SPACE LOW, made at CLIP START and after each placement (R68). -/
def State.checkSpaceLow (s : State) (i : Fin 4) : State :=
  let sl := s.slot i
  if sl.spaceLowArmed && decide (sl.remaining < sl.lowWater) then
    (s.onSlot i fun sl => { sl with spaceLowArmed := false }).notify (.spaceLow i sl.clip sl.remaining sl.lowWater)
  else s

/-! ### Extents (R58 to R60, R99) -/

/-- The extents of a stream. -/
def Slot.extents (s : Slot) (stream : Stream) : List Extent :=
  match stream with
  | .video => s.video
  | .track => s.trackList

/-- The list of the stream is full (R58, R60). -/
def Slot.listFull (s : Slot) (stream : Stream) : Bool :=
  match stream with
  | .video => decide (Config.videoExtents ≤ s.video.length)
  | .track => decide ((if s.track then 2 else 1) ≤ s.trackList.length)

/-- A first track extent too short: below 2 blocks with track on (R60). -/
def Slot.tooShort (s : Slot) (stream : Stream) (length : Nat) : Bool :=
  match stream with
  | .video => false
  | .track => s.trackList.isEmpty && decide (length < (if s.track then 2 else 1))

/-- The run overlaps an entry of a plain write in the write queue (R59). -/
def Card.overlapsPlain (c : Card) (a n : Nat) : Bool :=
  c.queue.any fun e => decide (e.owner = .plain) && overlaps a n e.start e.count

/-- The cursor when an extent joins the end of its list: one that stands past the last extent takes the new extent
(R58, R99). -/
def Cursor.take (c : Cursor) (e : Extent) : Cursor :=
  match c.next with
  | none => ⟨c.index, some e.start⟩
  | some _ => c

/-- The track cursor at an accepted TRACK EXTENT ADD: the block after the summary block at the first extent (R99). -/
def Slot.trackCursorWith (s : Slot) (e : Extent) : Cursor :=
  if s.trackList.isEmpty then if 2 ≤ e.length then ⟨0, some (e.start + 1)⟩ else ⟨1, none⟩
  else s.trackCursor.take e

/-- An accepted VIDEO EXTENT ADD: appended, the cursor moved, SPACE LOW armed again when the space allows (R58, R68). -/
def Slot.addVideo (s : Slot) (e : Extent) : Slot :=
  let s := { s with video := s.video ++ [e], videoCursor := s.videoCursor.take e }
  { s with spaceLowArmed := s.spaceLowArmed || decide (s.lowWater ≤ s.remaining) }

/-- An accepted TRACK EXTENT ADD (R58, R99). -/
def Slot.addTrack (s : Slot) (e : Extent) : Slot :=
  { s with trackList := s.trackList ++ [e], trackCursor := s.trackCursorWith e }

/-- An accepted EXTENT ADD. -/
def Slot.addExtent (s : Slot) (stream : Stream) (e : Extent) : Slot :=
  match stream with
  | .video => s.addVideo e
  | .track => s.addTrack e

/-- The checks of EXTENT ADD after its arguments, steps 2 to 8 of R58; none when it is accepted. -/
def State.extentRefusal (s : State) (i : Fin 4) (stream : Stream) (start length : Nat) : Option ReplyCode :=
  let sl := s.slot i
  if sl.state ≠ .armed ∧ sl.state ≠ .recording then some .badState
  else
    match s.path.card.state with
    | .starting => some .badState
    | .absent => some .noCard
    | .failed => some .noCard
    | .ready =>
      if s.path.card.capacity.getD 0 < start + length then some .outOfRange
      else if s.overlapsExtent start length || s.path.card.overlapsPlain start length then some .overlap
      else if sl.listFull stream then some .noSpace
      else if sl.tooShort stream length then some .badArg
      else none

/-! ### Placing clip data (R67) -/

/-- The blocks laid from a block of the first extent onward, one piece for each extent touched, and the cursor after
them; `extents` begins at the extent numbered `index` (R67). -/
def layBlocks (extents : List Extent) (index next : Nat) (blocks : List Block) : List (Nat × List Block) × Cursor :=
  match extents with
  | [] => ([], ⟨index, none⟩)
  | e :: rest =>
    if blocks.isEmpty then ([], ⟨index, some next⟩)
    else
      let room := e.start + e.length - next
      if blocks.length < room then ([(next, blocks)], ⟨index, some (next + blocks.length)⟩)
      else
        let onward : List (Nat × List Block) × Cursor := match rest with
          | [] => ([], ⟨index + 1, none⟩)
          | e2 :: _ => layBlocks rest (index + 1) e2.start (blocks.drop room)
        ((next, blocks.take room) :: onward.1, onward.2)

/-- The pieces of a packet at the slot's cursor, and the cursor after them. -/
def Slot.lay (s : Slot) (blocks : List Block) : List (Nat × List Block) × Cursor :=
  match s.videoCursor.next with
  | none => ([], s.videoCursor)
  | some b => layBlocks (s.video.drop s.videoCursor.index) s.videoCursor.index b blocks

/-- The pieces join the write queue in order, one VIDEO entry each (R67, R76). -/
def Card.joinPieces (c : Card) (i : Fin 4) (pieces : List (Nat × List Block)) : Card :=
  pieces.foldl (fun c p => c.join (.slot i .video) p.1 p.2.length (.blocks p.2)) c

/-- A packet placed whole (R67), followed by the check of SPACE LOW (R68). -/
def State.placePacket (s : State) (i : Fin 4) (blocks : List Block) : State :=
  let laid := (s.slot i).lay blocks
  ((s.onSlot i fun sl =>
    { sl with videoCursor := laid.2, accepted := satAdd sl.accepted blocks.length }).onCard
      fun c => c.joinPieces i laid.1).checkSpaceLow i

/-! ### Discards (R70) -/

/-- A slot counts a gap, unless it is FREE (R70). -/
def Slot.countGap (s : Slot) : Slot := if s.state = .free then s else { s with gaps := satAdd s.gaps 1 }

/-- A discarded CLIP DATA packet (R70). -/
def State.discardClip (s : State) (i : Fin 4) (n : Nat) (cause : DiscardCause) : State :=
  let s := (s.release n).onSlot i Slot.countGap
  s.notify (.dataDiscarded (some i) none n cause
    (if (s.slot i).state = .free then none else some (s.slot i).gaps))

/-- A discarded PLAIN WRITE packet (R70). -/
def State.discardPlain (s : State) (start n : Nat) (cause : DiscardCause) : State :=
  (s.release n).notify (.dataDiscarded none (some start) n cause none)

/-- The judgement of CLIP DATA after its payload check, steps 2 to 5 of R66; none when it is placed. -/
def State.clipDataRefusal (s : State) (i : Fin 4) (blocks : List Block) : Option DiscardCause :=
  let sl := s.slot i
  if sl.state ≠ .recording then some .badState
  else if sl.remaining < blocks.length then some .noSpace
  else if s.path.card.freeBlocks < blocks.length then some .overrun
  else if s.path.card.openEntries < (sl.lay blocks).1.length then some .queueFull
  else none

/-- The judgement of PLAIN WRITE after its payload check, steps 2 to 6 of R69; none when it is admitted. -/
def State.plainRefusal (s : State) (start n : Nat) : Option DiscardCause :=
  if s.path.card.state ≠ .ready then some .noCard
  else if s.path.card.capacity.getD 0 < start + n then some .outOfRange
  else if s.overlapsExtent start n then some .overlap
  else if s.path.card.freeBlocks < n then some .overrun
  else if s.path.card.openEntries = 0 then some .queueFull
  else none

/-! ### Commands -/

/-- Another slot that is not FREE holds the clip number (R57). -/
def State.clipInUse (s : State) (i : Fin 4) (clip : Nat) : Bool :=
  slotIndices.any fun j => decide (j ≠ i ∧ (s.slot j).state ≠ .free ∧ (s.slot j).clip = clip)

/-- A slot as CLIP ARM leaves it (R57, R96). -/
def Slot.armed (clip : Nat) (track : Bool) (lowWater : Nat) : Slot :=
  { Slot.freed with state := .armed, clip := clip, track := track, lowWater := lowWater, spaceLowArmed := true }

/-- CLIP_ARM (R57); handbacks of an earlier clip of the slot have nothing left to free (log 11). -/
def execClipArm (tag : Byte) (slot clip : Nat) (track : Option Bool) (lowWater : Option Nat) (s : State) :
    Host.Outcome State Fault Refusal :=
  .next (s.request tag .control fun s =>
    match slotIndex slot, track with
    | some i, some t =>
      if !(decide (1 ≤ clip ∧ clip ≤ 65535) && decide (lowWater.getD 256 ≤ 65535)) then s.answer tag .badArg
      else if (s.slot i).state ≠ .free then s.answer tag .badState
      else if s.clipInUse i clip then s.answer tag .badArg
      else
        ((s.onSlot i fun _ => Slot.armed clip t (lowWater.getD 256)).onCard fun c =>
          { c with handbacks := c.handbacks.filter fun h => decide (h.slot ≠ i) }).answer tag .ok
    | _, _ => s.answer tag .badArg)

/-- EXTENT_ADD (R58, R59, R60). -/
def execExtentAdd (tag : Byte) (slot : Nat) (stream : Option Stream) (start length : Nat) (s : State) :
    Host.Outcome State Fault Refusal :=
  .next (s.request tag .control fun s =>
    match slotIndex slot, stream with
    | some i, some st =>
      if length = 0 then s.answer tag .badArg
      else
        match s.extentRefusal i st start length with
        | some code => s.answer tag code
        | none => (s.onSlot i fun sl => sl.addExtent st ⟨start, length⟩).answer tag .ok
    | _, _ => s.answer tag .badArg)

/-- The checks of CLIP START after the slot index, steps 2 to 6 of R61; none when the clip starts. -/
def State.startRefusal (s : State) (i : Fin 4) : Option ReplyCode :=
  let sl := s.slot i
  if sl.state ≠ .armed then some .badState
  else if sl.video.isEmpty || sl.trackList.isEmpty then some .noSpace
  else if sl.track && s.path.window.geometry.isNone then some .badState
  else if s.path.card.state = .starting then some .badState
  else if s.mon.energy.state = .low ∨ s.mon.energy.state = .critical then some .lowEnergy
  else none

/-- A slot as CLIP START leaves it, but for SPACE LOW (R62, R96). -/
def Slot.started (s : Slot) (counter : FrameNo) : Slot :=
  { s with state := .recording, startFrame := some counter, nextTrack := some counter, firstStamp := none }

/-- CLIP_START (R61, R62, R68). -/
def execClipStart (tag : Byte) (slot : Nat) (s : State) : Host.Outcome State Fault Refusal :=
  .next (s.request tag .control fun s =>
    match slotIndex slot with
    | none => s.answer tag .badArg
    | some i =>
      match s.startRefusal i with
      | some code => s.answer tag code
      | none =>
        (((s.onSlot i fun sl => sl.started s.path.window.frameCounter).retain i (s.slot i).clip).checkSpaceLow i).answer
          tag .ok)

/-- CLIP_STOP (R63, R101 to R103). -/
def execClipStop (tag : Byte) (slot : Nat) (last : FrameNo) (s : State) : Host.Outcome State Fault Refusal :=
  .next (s.request tag .control fun s =>
    match slotIndex slot with
    | none => s.answer tag .badArg
    | some i =>
      match (s.slot i).state, (s.slot i).startFrame with
      | .recording, some start =>
        if frameOffset start s.path.window.frameCounter + Config.stopAhead < frameOffset start (last + 1) then
          s.answer tag .badArg
        else (s.closeSlot i (last + 1) .stop).answer tag .ok
      | _, _ => s.answer tag .badState)

/-- CLIP_DROP (R64). -/
def execClipDrop (tag : Byte) (slot : Nat) (s : State) : Host.Outcome State Fault Refusal :=
  .next (s.request tag .control fun s =>
    match slotIndex slot with
    | none => s.answer tag .badArg
    | some i => if (s.slot i).state = .armed then (s.freeSlot i).answer tag .ok else s.answer tag .badState)

/-- The blocks of a good payload: as many as the header says; anything else is a payload failure (R160, log 28). -/
def payloadBlocks (n : Nat) (payload : Option (List Block)) : Option (List Block) := payload.filter fun b => b.length = n

/-- A CLIP DATA packet handed to the clip table with its payload (R66, R67, R70). -/
def State.takeClipData (s : State) (i : Fin 4) (n : Nat) (payload : Option (List Block)) : State :=
  match payload with
  | none => s.discardClip i n .link
  | some blocks =>
    match s.clipDataRefusal i blocks with
    | some cause => s.discardClip i n cause
    | none => s.placePacket i blocks

/-- A PLAIN WRITE packet handed to the clip table with its payload (R69, R70). -/
def State.takePlain (s : State) (start n : Nat) (payload : Option (List Block)) : State :=
  match payload with
  | none => s.discardPlain start n .link
  | some blocks =>
    match s.plainRefusal start n with
    | some cause => s.discardPlain start n cause
    | none => s.onCard fun c => c.join .plain start n (.blocks blocks)

/-- A data packet with a good header: a payload failure is counted, and the received total rises by n as the packet is
handed on (R75, R160). -/
def State.takeData (s : State) (n : Nat) (payload : Option (List Block)) : State :=
  (if (payloadBlocks n payload).isNone then s.countPayloadError else s).receive n

/-- CLIP_DATA (R66, R67, R70); a slot above 3 or a count outside 1 to 16 is a header error (R159, log 23). -/
def execClipData (slot n : Nat) (payload : Option (List Block)) (s : State) : Host.Outcome State Fault Refusal :=
  .next (s.whenUp fun s =>
    match slotIndex slot with
    | none => s.headerError
    | some i =>
      if 1 ≤ n ∧ n ≤ 16 then (s.takeData n payload).takeClipData i n (payloadBlocks n payload) else s.headerError)

/-- PLAIN_WRITE (R69, R70); a count outside 1 to 16 is a header error (R159, log 23). -/
def execPlainWrite (start n : Nat) (payload : Option (List Block)) (s : State) : Host.Outcome State Fault Refusal :=
  .next (s.whenUp fun s =>
    if 1 ≤ n ∧ n ≤ 16 then (s.takeData n payload).takePlain start n (payloadBlocks n payload) else s.headerError)

end Sys2Proof.Machine
end

