-- ==== Sys2Proof/Machine/Operands.lean ====
section
/-! DEFINITION. The range and consistency checks of request arguments: each answers the setting the arguments give, or
none where the owner refuses them (00: a value outside its range is refused). -/

namespace Sys2Proof.Machine

/-- A number within its stated range. -/
def within (n lo hi : Nat) : Bool := decide (lo ≤ n ∧ n ≤ hi)

/-- MOTION SETUP: every field in its range, and the axis map uses each of x, y and z exactly once (R2, R21). -/
def checkMotion (a : MotionArgs) : Option MotionSetup := do
  let enable ← a.enable
  let order ← a.order
  let ax ← a.axes.yaw
  let ay ← a.axes.pitch
  let az ← a.axes.roll
  let sx ← a.signs.yaw
  let sy ← a.signs.pitch
  let sz ← a.signs.roll
  if within a.startAddress 0 127 && decide (ax ≠ ay ∧ ay ≠ az ∧ ax ≠ az) &&
      a.bias.all (fun b => decide (-32768 ≤ b ∧ b ≤ 32767)) && within a.threshold 0 98304 && within a.holdMs 1 255 &&
      a.rate.all (within · 1 65535) && a.leak.all (within · 0 4095) && a.limit.all (within · 1000 2000000) then
    some ⟨enable, a.startAddress, order, ⟨ax, ay, az⟩, ⟨sx, sy, sz⟩, a.bias, a.threshold, a.holdMs, a.rate, a.leak,
      a.limit⟩
  else none

/-- IMU WRITE and IMU READ: register address 0 to 127 and 1 to 8 bytes (R13, R14). -/
def checkTransfer (address count : Nat) : Bool := within address 0 127 && within count 1 8

/-- LENS TABLE, first check: an axis, a step of 256 to 65535, entries in their range (R23). -/
def checkLensRange (axis : Option LensAxis) (spacing : Nat) (entries : Vector Nat 17) : Bool :=
  axis.isSome && within spacing 256 65535 && entries.toList.all (within · 0 65535)

/-- No entry is less than the one before it. -/
def nonDecreasing (l : List Nat) : Bool :=
  match l with
  | a :: b :: rest => decide (a ≤ b) && nonDecreasing (b :: rest)
  | _ => true

/-- LENS TABLE, second check: begins at 0 and does not decrease (R23). -/
def checkLensOrder (entries : Vector Nat 17) : Bool :=
  entries.toList.head? == some 0 && nonDecreasing entries.toList

/-- LOAD GEOMETRY: ranges, parities and divisibility (03 section 3.1, R37). -/
def checkGeometry (g : Geometry) : Bool :=
  within g.sensorW 64 8192 && g.sensorW % 2 == 0 && within g.sensorH 16 8192 && g.sensorH % 2 == 0 &&
  within g.w 64 g.sensorW && (g.sensorW - g.w) % 2 == 0 && within g.h 16 g.sensorH && (g.sensorH - g.h) % 2 == 0 &&
  within g.bands 1 16 && g.h % g.bands == 0 && within g.watchMs 20 2550

/-- CARD SETUP (R81). -/
def checkCardSetup (retryLimit writeTimeout readWait : Nat) : Bool :=
  within retryLimit 0 15 && within writeTimeout 100 2000 && within readWait 10 2550

/-- A converter decimation (07 sections 7.2 and 7.3). -/
def checkRate (rate : Nat) : Bool := rate == 32 || rate == 64 || rate == 128 || rate == 256

/-- One SCAN LIST entry: a channel of the table of 07 section 7.3, a decimation, at most 3 discards (R115). -/
def checkScanEntry (e : ScanArg) : Option ScanEntry :=
  match e.channel with
  | none => none
  | some .current => none
  | some c => if checkRate e.rate && within e.discards 0 3 then some ⟨c, e.rate, e.discards⟩ else none

/-- A list holds a channel. -/
def scansChannel (list : List ScanEntry) (c : Channel) : Bool := list.any fun e => e.channel == c

/-- SCAN LIST: 1 to 8 good entries, with CELL1, CELL2, INPUT and BATT_TEMP among them (R115). -/
def checkScanList (entries : List ScanArg) : Option (List ScanEntry) := do
  let list ← entries.mapM checkScanEntry
  if within list.length 1 8 && scansChannel list .cell1 && scansChannel list .cell2 && scansChannel list .input &&
      scansChannel list .battTemp then some list else none

/-- COUNTER SET (R122). -/
def checkCounter (a : CounterArgs) : Bool :=
  within a.capacity 100 20000 && within a.seed 0 (a.capacity * 1000) && within a.reserve 0 500 &&
  within a.lowCell 3000 3800

/-- PROTECT SETUP (08 section 8.1, R134). -/
def checkProtect (a : ProtectArgs) : Option ProtectSettings := do
  let auto ← a.autoRecovery
  if within a.scMa 4000 24000 && within a.scSteps 1 63 && within a.docMa 500 15000 && within a.docMs 1 255 &&
      within a.cocMa 200 8000 && within a.cocMs 1 255 && within a.covMv 4200 4450 && within a.covMs 100 5000 &&
      within a.duvMv 2700 3300 &&
      (a.duvMs == 2000 || a.duvMs == 3000 || a.duvMs == 4000 || a.duvMs == 6000) then
    some ⟨a.scMa, a.scSteps, a.docMa, a.docMs, a.cocMa, a.cocMs, a.covMv, a.covMs, a.duvMv, a.duvMs, auto⟩
  else none

/-- CHARGE SETUP (09 section 9.1, R149). -/
def checkCharge (c : ChargeSettings) : Bool :=
  within c.icc 100 3000 && within c.vcv 4100 4350 && within c.iterm 20 500 && within c.prechargeMv 2500 3300 &&
  within c.prechargeMin 1 120 && within c.fastMin 30 600 && within c.vfloor 4400 12000

/-- BALANCE SET: the mode and settings held, MANUAL with both on being MANUAL with both off (R133). -/
def checkBalance (a : BalanceArg) : Option (BalanceMode × Option (Bool × Bool)) :=
  match a with
  | .auto => some (.auto, none)
  | .manual (some c1) (some c2) => some (.manual, some (if c1 && c2 then (false, false) else (c1, c2)))
  | _ => none

end Sys2Proof.Machine
end

