-- ==== Sys2Proof/Machine/Steady.lean ====
section
/-! DEFINITION. The steadying computation (02): integration, leak and limits; lens mapping; window and band positions;
staleness; the engine's handling of a frame start. -/

namespace Sys2Proof.Machine

/-! ### Integration (R17 to R20) -/

/-- The increment of an axis: Δθ = floor(P / 16,000,000) with P = g × K × Δt + c, and the new carry (R18). -/
def increment (g : Int) (k dt : Nat) (carry : Int) : Int × Int :=
  let p := g * k * dt + carry
  let dTheta := p.fdiv Config.carryUnit
  (dTheta, p - dTheta * Config.carryUnit)

/-- The effective leak coefficient: raised when the shake before the sample is beyond three quarters of the limit (R19). -/
def effectiveLeak (a limit : Nat) (shake : Int) : Nat :=
  if 3 * limit / 4 < shake.natAbs then min (4 * a) 16383 else a

/-- The leak, truncated toward zero (R20). -/
def leakOf (shake : Int) (aEff dt : Nat) : Int := (shake * aEff * dt).tdiv Config.leakUnit

/-- An axis after a sample: new shake, new carry, and whether the clamp applied (R18 to R20). -/
def integrateAxis (k a limit : Nat) (g : Int) (dt : Nat) (shake carry : Int) : Int × Int × Bool :=
  let inc := increment g k dt carry
  let sum := shake + inc.1 - leakOf shake (effectiveLeak a limit shake) dt
  let new := clamp sum (-limit) limit
  (new, inc.2, decide (new ≠ sum))

/-- The three axes of a sample together (R17). -/
def Engine.integrate (e : Engine) (m : MotionSetup) (g : PerAxis Int) (dt : Nat) : Engine :=
  let y := integrateAxis m.rate.yaw m.leak.yaw m.limit.yaw g.yaw dt e.shake.yaw e.carry.yaw
  let p := integrateAxis m.rate.pitch m.leak.pitch m.limit.pitch g.pitch dt e.shake.pitch e.carry.pitch
  let r := integrateAxis m.rate.roll m.leak.roll m.limit.roll g.roll dt e.shake.roll e.carry.roll
  { e with
    shake := ⟨y.1, p.1, r.1⟩
    carry := ⟨y.2.1, p.2.1, r.2.1⟩
    flags := e.flags.addEdge (y.2.2 || p.2.2 || r.2.2) }

/-- The clamp of one shake to a limit. -/
def clampShake (shake : Int) (limit : Nat) : Int := clamp shake (-limit) limit

/-- The clamp at a swap that brings in a motion setup; EDGE when it changes any shake (R22). -/
def Engine.clampToLimits (e : Engine) (limit : PerAxis Nat) : Engine :=
  let new : PerAxis Int :=
    ⟨clampShake e.shake.yaw limit.yaw, clampShake e.shake.pitch limit.pitch, clampShake e.shake.roll limit.roll⟩
  { e with shake := new, flags := e.flags.addEdge (decide (new ≠ e.shake)) }

/-- A recentre: shake and carry of all three axes become 0 (R33). -/
def Engine.recentre (e : Engine) : Engine :=
  { e with shake := ⟨0, 0, 0⟩, carry := ⟨0, 0, 0⟩, recentrePending := false }

/-! ### Lens mapping (R25) -/

/-- The table's value for a magnitude, in sixteenths of a pixel: interpolated, and held beyond the last entry (R25). -/
def LensTable.sixteenths (t : LensTable) (magnitude : Nat) : Nat :=
  let k := magnitude / t.spacing
  let e := fun (n : Nat) => t.entries.toList.getD n 0
  if 16 ≤ k then e 16 else e k + (e (k + 1) - e k) * (magnitude % t.spacing) / t.spacing

/-- The displacement in whole pixels for a shake, an odd function of it (R25). -/
def LensTable.displacement (t : LensTable) (shake : Int) : Int :=
  let p := (t.sixteenths shake.natAbs + 8) / 16
  if 0 < shake then (p : Int) else if shake < 0 then -(p : Int) else 0

/-- The displacement through a table that may be absent; in ON mode both are present (R24). -/
def displacementThrough (t : Option LensTable) (shake : Int) : Int :=
  match t with
  | none => 0
  | some t => t.displacement shake

/-! ### Positions (R26, R27) -/

/-- Half the difference of sensor and window size (02 section 2.5). -/
def marginX (g : Geometry) : Nat := (g.sensorW - g.w) / 2
/-- See marginX. -/
def marginY (g : Geometry) : Nat := (g.sensorH - g.h) / 2
/-- Rows of one band (03 section 3.1). -/
def bandHeight (g : Geometry) : Nat := g.h / g.bands

/-- A coordinate: the margin less the displacement, held within 0 and twice the margin, and whether the clamp applied. -/
def place (margin : Nat) (displacement : Int) : Nat × Bool :=
  let v := (margin : Int) - displacement
  let c := clamp v 0 (2 * margin)
  (c.toNat, decide (c ≠ v))

/-- The start column from the yaw shake: the margin in OFF mode (R26, R27). -/
def Engine.column (e : Engine) (g : Geometry) : Nat × Bool :=
  match e.mode with
  | .off => ((marginX g), false)
  | .on => place (marginX g) (displacementThrough e.lensH e.shake.yaw)

/-- The top row from the pitch shake: the margin in OFF mode (R26). -/
def Engine.row (e : Engine) (g : Geometry) : Nat × Bool :=
  match e.mode with
  | .off => ((marginY g), false)
  | .on => place (marginY g) (displacementThrough e.lensV e.shake.pitch)

/-- Whether the shake is stale at a moment (R29). -/
def Intake.stale (i : Intake) (at_ : Time) : Bool :=
  i.state != .running ||
    match i.lastSample with
    | none => true
    | some sample => decide (Config.maxIntervalUs < (at_ - sample.stamp).toNat)

/-- The engine's handling of a frame start, in the order of R34: recentre, mode request, staleness, then the flags of
the positions. -/
def Engine.frameStart (e : Engine) (g : Geometry) (stale : Bool) : Engine :=
  let e := if e.recentrePending then e.recentre else e
  let e := { e with mode := e.modeRequest.getD e.mode, modeRequest := none }
  { e with
    flags := ((e.flags.addStale stale).addEdge ((e.column g).2 || (e.row g).2)).addBypass (decide (e.mode = .off)) }

/-- The engine's handling of a band start: staleness and the column's clamp (R27, R29). -/
def Engine.bandStart (e : Engine) (g : Geometry) (stale : Bool) : Engine :=
  { e with flags := (e.flags.addStale stale).addEdge (e.column g).2 }

end Sys2Proof.Machine
end

