-- ==== Sys2Proof/Machine/Swap.lean ====
section
/-! DEFINITION. The swap of pending settings (03 section 3.3, R40 and R41) and what it does to the intake (R3) and to the
shake (R22). -/

namespace Sys2Proof.Machine

/-- The intake at a swap that brings in a motion setup (R3). -/
def Intake.takeSetup (i : Intake) (m : MotionSetup) : Intake :=
  let i := { i with active := m, pending := none }
  match i.state, m.enable with
  | .stopped, false => i
  | .stopped, true =>
    { i with
      state := .running, reference := none, lastEdge := none, silence := some (later i.timestamp Config.silenceUs) }
  | _, true => i
  | _, false => { i with state := .stopped, reference := none, silence := none }

/-- The pending lens tables become active; an axis with none keeps its table (R24). -/
def Engine.takeTables (e : Engine) : Engine :=
  { e with
    lensH := e.pendingH.orElse fun _ => e.lensH
    lensV := e.pendingV.orElse fun _ => e.lensV
    pendingH := none
    pendingV := none }

/-- A pending geometry that can be taken: none while a slot is RECORDING or CLOSING (R41). -/
def State.takeableGeometry (s : State) : Option Geometry := if s.clipBusy then none else s.path.window.pending

/-- Some pending setting is present and can be taken (R40, R41). -/
def State.swapDue (s : State) : Bool :=
  s.takeableGeometry.isSome || s.path.intake.pending.isSome || s.path.engine.pendingH.isSome ||
    s.path.engine.pendingV.isSome

/-- The pending geometry becomes active, where it can be taken. -/
def State.swapGeometry (s : State) : State :=
  match s.takeableGeometry with
  | none => s
  | some g => s.onWindow fun w => { w with geometry := some g, pending := none }

/-- The pending motion setup becomes active, with its effects on the intake state and on the shake (R3, R22). -/
def State.swapMotion (s : State) : State :=
  match s.path.intake.pending with
  | none => s
  | some m => (s.onIntake fun i => i.takeSetup m).onEngine fun e => e.clampToLimits m.limit

/-- The swap: every pending setting that can be taken becomes active, and the setup generation steps by one (R40). -/
def State.swap (s : State) : State :=
  if s.swapDue then
    (s.swapGeometry.swapMotion.onEngine Engine.takeTables).onWindow fun w => { w with generation := w.generation + 1 }
  else s

/-- A settings request accepted while the pixel path is IDLE is followed by a swap at once (R40). -/
def State.swapIfIdle (s : State) : State := if s.path.window.path = .idle then s.swap else s

end Sys2Proof.Machine
end

