-- ==== Sys2Proof/Machine/Engine.lean ====
section
/-! DEFINITION. The commands of the steadying engine (02). -/

namespace Sys2Proof.Machine

/-- SAMPLE_INTEGRATION: the last sample, when it has an interval and awaits its integration (R17, log 9). -/
def execSampleIntegration (s : State) : Host.Outcome State Fault Refusal :=
  .next (s.whenUp fun s =>
    match s.path.intake.integrationDue, s.path.intake.lastSample with
    | true, some ⟨_, some dt, rates, _⟩ =>
      (s.onEngine fun e => e.integrate s.path.intake.active rates dt).onIntake fun i => { i with integrationDue := false }
    | _, _ => s)

/-- A lens table becomes the pending table of its axis (R23). -/
def Engine.setPending (e : Engine) (axis : LensAxis) (t : LensTable) : Engine :=
  match axis with
  | .h => { e with pendingH := some t }
  | .v => { e with pendingV := some t }

/-- LENS_TABLE (R23, R40). -/
def execLensTable (tag : Byte) (axis : Option LensAxis) (spacing : Nat) (entries : Vector Nat 17) (s : State) :
    Host.Outcome State Fault Refusal :=
  .next (s.request tag .control fun s =>
    match axis with
    | none => s.answer tag .badArg
    | some a =>
      if !checkLensRange axis spacing entries then s.answer tag .badArg
      else if !checkLensOrder entries then s.answer tag .tableOrder
      else (s.onEngine fun e => e.setPending a ⟨spacing, entries⟩).swapIfIdle.answer tag .ok)

/-- ON is possible: the geometry and both active tables are present (R32). -/
def State.canSteady (s : State) : Bool :=
  s.path.window.geometry.isSome && s.path.engine.lensH.isSome && s.path.engine.lensV.isSome

/-- STEADY_MODE: at once while IDLE, otherwise as a mode request (R32, R35). -/
def execSteadyMode (tag : Byte) (mode : Option Mode) (s : State) : Host.Outcome State Fault Refusal :=
  .next (s.request tag .control fun s =>
    match mode with
    | none => s.answer tag .badArg
    | some m =>
      if m = .on ∧ s.canSteady = false then s.answer tag .badState
      else if s.path.window.path = .idle then
        (s.onEngine fun e => { e with mode := m, modeRequest := none }).answer tag .ok
      else (s.onEngine fun e => { e with modeRequest := some m }).answer tag .ok)

/-- RECENTER: at once while IDLE, otherwise pending (R33, R35). -/
def execRecenter (tag : Byte) (s : State) : Host.Outcome State Fault Refusal :=
  .next (s.request tag .control fun s =>
    if s.path.window.path = .idle then (s.onEngine Engine.recentre).answer tag .ok
    else (s.onEngine fun e => { e with recentrePending := true }).answer tag .ok)

end Sys2Proof.Machine
end

