-- ==== Sys2Proof/Machine/Frame.lean ====
section
/-! DEFINITION. The frame window (03): frames, rows, cutting, records, stalls; and its commands. -/

namespace Sys2Proof.Machine

/-! ### The frame stream (R51) -/

/-- The unit is a line. -/
def StreamUnit.isLine (u : StreamUnit) : Bool :=
  match u with
  | .line _ _ => true
  | _ => false

/-- Lines the frame stream holds (R45). -/
def linesHeld (stream : List StreamUnit) : Nat := (stream.filter StreamUnit.isLine).length

/-! ### Closing a frame (R43, R49, R50) -/

/-- The frame watch deadline from now (R52). -/
def watchFrom (now : Time) (g : Geometry) : Time := later now (1000 * g.watchMs)

/-- The record of a frame at its close (R50). -/
def OpenFrame.record (f : OpenFrame) (motion : FrameFlags) (short : Bool) (peak : Nat) : FrameRecord where
  number := f.number
  start := f.start
  x0 := f.x0
  y0 := f.y0
  lines := f.lines
  bandCount := f.geometry.bands
  flags := ⟨motion, f.shortLine, short⟩
  shake := f.shake
  peak := peak
  bands := f.bands

/-- Steps 1 to 4 of R49: flags taken, short frames counted, the record handed to the frame stream and to the track
assembler; the open frame becomes absent. -/
def State.closeFrame (s : State) (f : OpenFrame) (forced : Bool) : State :=
  let short := forced || decide (f.lines < f.geometry.h)
  let record := f.record s.path.engine.flags short s.path.intake.framePeak
  let s := s.onFlags fun _ => FrameFlags.empty
  let s := s.onWindow fun w =>
    { w with frame := none, shortFrames := if short then satAdd w.shortFrames 1 else w.shortFrames }
  (s.pushStream (.trailer record)).takeRecord record

/-- The open frame, if there is one, closed as SHORT_FRAME (R43, R53). -/
def State.closeShort (s : State) : State :=
  match s.path.window.frame with
  | none => s
  | some f => s.closeFrame f true

/-! ### Frame starts (R39, R42) -/

/-- Steps 4 to 9 of R42 with a geometry active. Step 5 sets the frame peak to 0, while R12 and R39 have the samples taken in
while IDLE count for the frame that starts: a frame that starts from IDLE begins with their peak (log 35, DEDUCED). -/
def State.beginFrame (s : State) (g : Geometry) : State :=
  let number := s.path.window.frameCounter
  let start := s.now
  let s := (s.onWindow fun w => { w with frameCounter := w.frameCounter + 1, lastBegun := some number }).onIntake fun i =>
    { i with framePeak := if s.path.window.path = .idle then i.idlePeak else 0, idlePeak := 0 }
  let s := s.onEngine fun e => e.frameStart g (s.path.intake.stale start)
  let e := s.path.engine
  let x0 := (e.column g).1
  let y0 := (e.row g).1
  let frame : OpenFrame := ⟨number, start, g, x0, y0, (Vector.replicate 16 0).set 0 x0, 0, 0, false, e.shake⟩
  let s := s.pushStream (.header ⟨number, start, x0, y0, g.w, g.h, s.path.window.generation, g.bands⟩)
  s.onWindow fun w =>
    { w with frame := some frame, watch := some (watchFrom start g), path := .inFrame, discardMarker := false }

/-- A frame start with the geometry active: the open frame closed, the swap, then the new frame (R42, R43). -/
def State.numberedStart (s : State) : State :=
  let s := s.closeShort.swap
  match s.path.window.geometry with
  | none => s
  | some g => s.beginFrame g

/-- FRAME_START_UNIT (R39, R42, R43): with the geometry unset the swap comes first, and a unit that still finds none is
a discarded frame. -/
def execFrameStartUnit (s : State) : Host.Outcome State Fault Refusal :=
  .next (s.whenUp fun s =>
    let s := if s.path.window.geometry.isNone then s.swap else s
    if s.path.window.geometry.isNone then
      s.onWindow fun w => { w with unsetFrames := satAdd w.unsetFrames 1, discardMarker := true }
    else s.numberedStart)

/-! ### Lines (R45 to R48) -/

/-- A line cut to w pixels from a column, and whether it was short (R47). -/
def cutLine (sensorW w column : Nat) (pixels : List Pixel) : List Pixel × Bool :=
  let usable := pixels.take sensorW
  let got := (usable.drop column).take w
  (got ++ List.replicate (w - got.length) (usable.getLast?.getD 0), decide (usable.length < column + w))

/-- The band start of band b: staleness judged, the column computed and entered (R46). -/
def State.bandStart (s : State) (f : OpenFrame) (b : Nat) : State :=
  let column := (s.path.engine.column f.geometry).1
  let s := s.onEngine fun e => e.bandStart f.geometry (s.path.intake.stale s.now)
  s.onWindow fun w => { w with frame := w.frame.map fun f => { f with bands := f.bands.setIfInBounds b column } }

/-- The output line i of the open frame, after any band start: cut at its band's column, and handed to the frame stream
unless that holds 4 lines (R45 step 6, R47). -/
def State.passLine (s : State) (f : OpenFrame) (i : Nat) (pixels : List Pixel) : State :=
  let cut := cutLine f.geometry.sensorW f.geometry.w (f.bands.toList.getD (i / bandHeight f.geometry) 0) pixels
  if linesHeld s.path.link.stream < Config.streamLines then
    (s.pushStream (.line i cut.1)).onWindow fun w =>
      { w with frame := some { f with lines := f.lines + 1, shortLine := f.shortLine || cut.2 } }
  else s.onWindow fun w => { w with frame := some { f with shortLine := f.shortLine || cut.2 } }

/-- A line unit of an open frame (R45). -/
def State.frameLine (s : State) (f : OpenFrame) (g : Geometry) (pixels : List Pixel) : State :=
  let r := f.rows
  let f := { f with rows := satAdd f.rows 1 }
  let s := s.onWindow fun w => { w with frame := some f, watch := some (watchFrom s.now g) }
  if r < f.y0 ∨ f.y0 + f.geometry.h ≤ r then s
  else
    let i := r - f.y0
    let b := i / bandHeight f.geometry
    let s := if i % bandHeight f.geometry = 0 ∧ 1 ≤ b then s.bandStart f b else s
    match s.path.window.frame with
    | none => s
    | some f => s.passLine f i pixels

/-- LINE_UNIT (R38, R39, R45, R48). -/
def execLineUnit (pixels : List Pixel) (s : State) : Host.Outcome State Fault Refusal :=
  .next (s.whenUp fun s =>
    match s.path.window.path, s.path.window.frame, s.path.window.geometry with
    | .inFrame, some f, some g => s.frameLine f g pixels
    | .inFrame, _, _ => s
    | .idle, _, _ =>
      if s.path.window.discardMarker then s
      else s.onWindow fun w => { w with orphanLines := satAdd w.orphanLines 1 }
    | .between, _, _ => s.onWindow fun w => { w with orphanLines := satAdd w.orphanLines 1 })

/-! ### Frame end and stall (R49, R53) -/

/-- FRAME_END_UNIT (R38, R39, R48, R49). -/
def execFrameEndUnit (s : State) : Host.Outcome State Fault Refusal :=
  .next (s.whenUp fun s =>
    match s.path.window.path, s.path.window.frame, s.path.window.geometry with
    | .inFrame, some f, some g =>
      (s.closeFrame f false).onWindow fun w => { w with watch := some (watchFrom s.now g), path := .between }
    | .inFrame, _, _ => s
    | .idle, _, _ => s.onWindow fun w => { w with discardMarker := false }
    | .between, _, _ => s)

/-- SENSOR_STALL: expiry of the watch deadline (R53, R54). -/
def execSensorStall (s : State) : Host.Outcome State Fault Refusal :=
  .next (s.whenUp fun s => s.expiry (s.path.window.watch.map s.pathLeft) fun s =>
    let state := s.path.window.path
    let frame := s.path.window.frame
    let s := s.closeShort.onWindow fun w => { w with stalls := satAdd w.stalls 1 }
    let s := s.notify (.sensorStall state s.path.window.lastBegun (frame.map OpenFrame.lines) (frame.map OpenFrame.rows)
      s.path.window.frameCounter s.path.window.stalls)
    s.cutAllOwed.onWindow fun w => { w with watch := none, path := .idle })

/-- LOAD_GEOMETRY (R37, R40). -/
def execLoadGeometry (tag : Byte) (args : Geometry) (s : State) : Host.Outcome State Fault Refusal :=
  .next (s.request tag .control fun s =>
    if !checkGeometry args then s.answer tag .badArg
    else if s.clipBusy then s.answer tag .badState
    else (s.onWindow fun w => { w with pending := some args }).swapIfIdle.answer tag .ok)

end Sys2Proof.Machine
end

