-- ==== Sys2Proof/Machine/Motion.lean ====
section
/-! DEFINITION. The commands of the motion intake (01). -/

namespace Sys2Proof.Machine

/-! ### Taking a sample in -/

/-- The 16-bit value of a pair of clocked bytes in a byte order (01 section 1.4). -/
def rawValue (order : ByteOrder) (bytes : Vector Byte 12) (pair : Nat) : Int :=
  let b := bytes.toList
  let first := b.getD (2 * pair) 0
  let second := b.getD (2 * pair + 1) 0
  match order with
  | .highFirst => (first ++ second).toInt
  | .lowFirst => (second ++ first).toInt

/-- The six values of a sample: gyro x, y, z and accelerometer x, y, z (R6). -/
structure RawSample where
  gyroX : Int
  gyroY : Int
  gyroZ : Int
  accelX : Int
  accelY : Int
  accelZ : Int
deriving DecidableEq, Repr

/-- The twelve bytes assembled in a byte order (R6). -/
def assemble (order : ByteOrder) (bytes : Vector Byte 12) : RawSample :=
  ⟨rawValue order bytes 0, rawValue order bytes 1, rawValue order bytes 2, rawValue order bytes 3,
    rawValue order bytes 4, rawValue order bytes 5⟩

/-- The raw value of a gyro axis. -/
def RawSample.gyro (r : RawSample) (a : GyroAxis) : Int :=
  match a with
  | .x => r.gyroX
  | .y => r.gyroY
  | .z => r.gyroZ

/-- Conditioning of one axis: sign, bias, clamp (R9). -/
def condition (raw : Int) (sign : Sign) (bias : Int) : Int :=
  let m := match sign with
    | .plus => raw
    | .minus => -raw
  clamp (m - bias) (-32767) 32767

/-- The conditioned yaw, pitch and roll (R9). -/
def conditioned (m : MotionSetup) (r : RawSample) : PerAxis Int :=
  ⟨condition (r.gyro m.axes.yaw) m.signs.yaw m.bias.yaw, condition (r.gyro m.axes.pitch) m.signs.pitch m.bias.pitch,
    condition (r.gyro m.axes.roll) m.signs.roll m.bias.roll⟩

/-- A raw value at the end of its range (R9). -/
def atEnd (raw : Int) : Bool := raw == -32768 || raw == 32767

/-- Any of the three raw gyro values is at the end of its range (R9). -/
def RawSample.clipped (r : RawSample) : Bool := atEnd r.gyroX || atEnd r.gyroY || atEnd r.gyroZ

/-- The sum of the absolute raw accelerometer counts (R10). -/
def RawSample.accelSum (r : RawSample) : Nat := r.accelX.natAbs + r.accelY.natAbs + r.accelZ.natAbs

/-- The measured interval as handed on: 0 becomes 1, and above 4000 it is 4000 (R8). -/
def adjustInterval (measured : Nat) : Nat := max 1 (min measured Config.maxIntervalUs)

/-- A shock: the threshold is not 0 and the sum is greater (R10). -/
def MotionSetup.isShock (m : MotionSetup) (sum : Nat) : Bool := decide (m.threshold ≠ 0 ∧ m.threshold < sum)

/-- The shock hold deadline after a shock: the later one stands (R10). -/
def extendHold (old : Option Time) (new : Time) : Time :=
  match old with
  | none => new
  | some d => if before new d then d else new

/-- The overlap mark of an attempt in progress is set when the shock hold runs (R86). -/
def Card.markOverlap (c : Card) : Card :=
  { c with transaction := c.transaction.map fun t => if t.phase = .waitRetry then t else { t with overlap := true } }

/-- The shock check of a sample taken in (R10, R86). -/
def State.shockCheck (s : State) (stamp : Time) (sum : Nat) : State :=
  if s.path.intake.active.isShock sum then
    (((s.onIntake fun i =>
      { i with shockHold := some (extendHold i.shockHold (later stamp (1000 * i.active.holdMs))) }).onFlags
        fun f => f.addShock true).onCard Card.markOverlap)
  else s

/-- The intake takes a sample in: interval, reference time, record, conditioning, shock check and frame peak (R8, R9,
R10, R12). A sample taken in while the pixel path is IDLE counts for the next frame that starts (R12, log 35). -/
def State.takeSample (s : State) (stamp : Time) (r : RawSample) : State :=
  let measured := s.path.intake.reference.map fun t => (stamp - t).toNat
  let gap := match measured with
    | none => false
    | some dt => decide (Config.maxIntervalUs < dt)
  let s := s.onIntake fun i =>
    { i with
      reference := some stamp
      gaps := if gap then satAdd i.gaps 1 else i.gaps
      framePeak := max i.framePeak r.accelSum
      idlePeak := if s.path.window.path = .idle then max i.idlePeak r.accelSum else i.idlePeak
      lastSample := some ⟨stamp, measured.map adjustInterval, conditioned i.active r, r.accelSum⟩
      integrationDue := measured.isSome }
  (s.onFlags fun f => (f.addGap gap).addClipped r.clipped).shockCheck stamp r.accelSum

/-! ### Commands -/

/-- DATA_READY_EDGE (R4, R5, R6, R7): ignored in STOPPED; starts a read on a free port and is an overrun on an occupied
one; restarts the silence watch, and returns a SILENT intake to RUNNING. That edge counts as an edge since the entry to
RUNNING for a later IMU SILENT notice, by the model's choice (log 31). -/
def edge (i : Intake) : Intake :=
  match i.state with
  | .stopped => i
  | state =>
    let i := match i.port with
      | .free => { i with port := .sampleRead i.timestamp i.active.startAddress i.active.order }
      | _ => { i with overruns := satAdd i.overruns 1 }
    { i with
      state := .running
      reference := if state = .silent then none else i.reference
      lastEdge := some i.timestamp
      silence := some (later i.timestamp Config.silenceUs) }

/-- DATA_READY_EDGE. -/
def execDataReadyEdge (s : State) : Host.Outcome State Fault Refusal :=
  .next (s.whenUp fun s => s.onIntake edge)

/-- SAMPLE_READ_COMPLETE (R3, R8): the port is freed; in RUNNING the sample is taken in, otherwise it is discarded
(log 8). A read that an edge in SILENT found still in progress completes in RUNNING, and its sample is the reference-only
one (R7, R8, log 36). -/
def execSampleReadComplete (bytes : Vector Byte 12) (s : State) : Host.Outcome State Fault Refusal :=
  .next (s.whenUp fun s =>
    match s.path.intake.port with
    | .sampleRead stamp _ order =>
      let s := s.onIntake fun i => { i with port := .free }
      if s.path.intake.state = .running then s.takeSample stamp (assemble order bytes) else s
    | _ => s)

/-- IMU_SILENT: expiry of the silence deadline in RUNNING (R5). -/
def execImuSilent (s : State) : Host.Outcome State Fault Refusal :=
  .next (s.whenUp fun s => s.expiry (s.path.intake.silence.map s.pathLeft) fun s =>
    (s.onIntake fun i => { i with state := .silent, silence := none, silentEntries := satAdd i.silentEntries 1 }).notify
      (.imuSilent s.now s.path.intake.lastEdge))

/-- SHOCK_HOLD_EXPIRY (R11). -/
def execShockHoldExpiry (s : State) : Host.Outcome State Fault Refusal :=
  .next (s.whenUp fun s => s.expiry (s.path.intake.shockHold.map s.pathLeft) fun s =>
    s.onIntake fun i => { i with shockHold := none })

/-- MOTION_SETUP (R2, R21, R40). -/
def execMotionSetup (tag : Byte) (args : MotionArgs) (s : State) : Host.Outcome State Fault Refusal :=
  .next (s.request tag .control fun s =>
    match checkMotion args with
    | none => s.answer tag .badArg
    | some m => (s.onIntake fun i => { i with pending := some m }).swapIfIdle.answer tag .ok)

/-- The checks that IMU WRITE and IMU READ share, in the order of R13; none when the transfer begins. -/
def transferRefusal (i : Intake) (address count : Nat) : Option ReplyCode :=
  if !checkTransfer address count then some .badArg
  else if i.state ≠ .stopped then some .badState
  else if i.port ≠ .free then some .busy
  else none

/-- IMU_WRITE (R13): the reply waits for IMU_WRITE_DONE. -/
def execImuWrite (tag : Byte) (address : Nat) (data : List Byte) (s : State) : Host.Outcome State Fault Refusal :=
  .next (s.request tag .control fun s =>
    match transferRefusal s.path.intake address data.length with
    | some code => s.answer tag code
    | none => s.onIntake fun i => { i with port := .passWrite tag address data })

/-- IMU_WRITE_DONE (R13). -/
def execImuWriteDone (s : State) : Host.Outcome State Fault Refusal :=
  .next (s.whenUp fun s =>
    match s.path.intake.port with
    | .passWrite tag _ _ => (s.onIntake fun i => { i with port := .free }).answer tag .ok
    | _ => s)

/-- IMU_READ (R14): the reply waits for IMU_READ_DONE. -/
def execImuRead (tag : Byte) (address count : Nat) (s : State) : Host.Outcome State Fault Refusal :=
  .next (s.request tag .control fun s =>
    match transferRefusal s.path.intake address count with
    | some code => s.answer tag code
    | none => s.onIntake fun i => { i with port := .passRead tag address count })

/-- IMU_READ_DONE with the bytes clocked in, as many as the count (R14). -/
def execImuReadDone (bytes : List Byte) (s : State) : Host.Outcome State Fault Refusal :=
  .next (s.whenUp fun s =>
    match s.path.intake.port with
    | .passRead tag _ count =>
      if bytes.length = count then (s.onIntake fun i => { i with port := .free }).reply tag .ok (.bytes bytes) else s
    | _ => s)

end Sys2Proof.Machine
end

