-- ==== Sys2Proof/Machine/Card.lean ====
section
/-! DEFINITION. The write queue and card engine (05): card states, teardown, attempts, retries, failure, the arbiter and
the reads; and its commands. -/

namespace Sys2Proof.Machine

/-! ### Signals and deadlines -/

/-- Something is sent on the card port and its response awaited under a fresh response deadline (R79, R82, R83). -/
def Card.send (c : Card) (signal : CardSignal) (now : Time) : Card :=
  { c with lastSignal := some signal, response := some (later now Config.responseUs) }

/-- A fresh response deadline with nothing sent: the next block of a read is awaited (R83). -/
def Card.await (c : Card) (now : Time) : Card := { c with response := some (later now Config.responseUs) }

/-! ### Leaving the queue (R77) -/

/-- The blocks that entries leaving the queue release (R75, R77). -/
def State.releaseEntries (s : State) (entries : List Entry) : State := s.release (heldBlocks entries)

/-- The handback of an entry's track buffer, where it has one (R77). -/
def Entry.handback? (e : Entry) (result : HandbackResult) : Option Handback :=
  match e.owner, e.data with
  | .slot i _, .buffer b => some ⟨i, b, result⟩
  | _, _ => none

/-- The track buffers of the entries are handed back, in queue order (R77, R100). -/
def State.handBack (s : State) (entries : List Entry) (result : HandbackResult) : State :=
  s.onCard fun c => { c with handbacks := c.handbacks ++ entries.filterMap fun e => e.handback? result }

/-! ### Teardown (R90) -/

/-- The read buffer after the transaction in flight is abandoned: data already read good stays (R90 step 4, R94). -/
def ReadBuffer.abandon (b : ReadBuffer) : ReadBuffer :=
  match b with
  | .filling _ => .free
  | b => b

/-- Step 1 of R90, with the change of card state. -/
def Card.abandon (c : Card) (new : CardState) : Card :=
  { c with
    state := new, transaction := none, readBuffer := c.readBuffer.abandon
    debounce := none, startDeadline := none, response := none, busy := none, lastSignal := none }

/-- The read whose cells are being sent, and the other reads (R90 step 4). -/
def Card.splitReads (c : Card) : List CardRead × List CardRead :=
  match c.readBuffer with
  | .sending _ _ _ => (c.reads.take 1, c.reads.drop 1)
  | _ => ([], c.reads)

/-- Reads answered with one code, in order. -/
def State.answerReads (s : State) (reads : List CardRead) (code : ReplyCode) : State :=
  reads.foldl (fun s r => s.answer r.tag code) s

/-- Step 3 of R90: the queue is emptied. -/
def State.emptyQueue (s : State) : State :=
  let entries := s.path.card.queue
  ((s.onCard fun c => { c with queue := [] }).releaseEntries entries).handBack entries .removed

/-- Step 4 of R90: the reads that are not being sent are answered NO_CARD, in the order of their arrival by the model's choice
(log 37). -/
def State.dropReads (s : State) : State :=
  let split := s.path.card.splitReads
  (s.onCard fun c => { c with reads := split.1 }).answerReads split.2 .noCard

/-- A change to ABSENT or FAILED with its teardown, in the order of R90. -/
def State.teardown (s : State) (new : CardState) (cause : CardCause) (loss : LossCause) : State :=
  let old := s.path.card.state
  let s := (s.onCard fun c => c.abandon new).notify (.cardState new old cause none)
  s.emptyQueue.dropReads.loseSlots loss

/-- A removal: the state ABSENT, the capacity unknown, and the teardown (R78). -/
def State.removeCard (s : State) : State :=
  (s.onCard fun c => { c with capacity := none }).teardown .absent .removed .removed

/-! ### The start sequence (R79) -/

/-- The start sequence from step 1, under the start deadline already set. -/
def Card.startOver (c : Card) (now : Time) : Card := { c with startStep := .resetCommand }.send .resetCommand now

/-- Entry to STARTING (R78, R79, R80). -/
def State.startCard (s : State) (cause : CardCause) : State :=
  let old := s.path.card.state
  (s.onCard fun c =>
    { c with
      state := .starting, debounce := none
      startDeadline := some (later s.now Config.startUs) }.startOver s.now).notify (.cardState .starting old cause none)

/-- Success of the start sequence (R79). -/
def State.cardReady (s : State) (capacity : Nat) : State :=
  (s.onCard fun c =>
    { c with
      state := .ready, capacity := some capacity, failures := 0, startDeadline := none, response := none }).notify
    (.cardState .ready .starting .started (some capacity))

/-- A response during the start sequence; one that its step does not expect restarts it (R79, log 13). -/
def State.startResponse (s : State) (r : StartResponse) : State :=
  match s.path.card.startStep, r with
  | .resetCommand, .accepted => s.onCard fun c => { c with startStep := .poll }.send .poll s.now
  | .poll, .accepted => s.onCard fun c => { c with startStep := .capacity }.send .queryCapacity s.now
  | .poll, .notReady => s.onCard fun c => c.send .poll s.now
  | .capacity, .capacity n =>
    if 1 ≤ n ∧ n ≤ Config.maxCapacity then s.cardReady n else s.onCard fun c => c.startOver s.now
  | _, _ => s.onCard fun c => c.startOver s.now

/-! ### Failure (R88, R89, R94) -/

/-- A failed transaction is counted; the transaction ends (R88, R94). -/
def Card.countFailure (c : Card) : Card :=
  { c with transaction := none, failedTransactions := satAdd c.failedTransactions 1, failures := c.failures + 1 }

/-- The card fails when three transactions in a row have failed (R89). -/
def State.judgeFailures (s : State) : State :=
  if Config.failuresToFail ≤ s.path.card.failures then s.teardown .failed .transactions .failed else s

/-- The entries of a transaction that an owner holds: a slot, or the plain writes. -/
def ownedBy (entries : List Entry) (owner : Option (Fin 4)) : List Entry := entries.filter fun e => e.slot? == owner

/-- The entry belongs to a stream of a slot. -/
def Entry.isStream (e : Entry) (stream : EntryStream) : Bool :=
  match e.owner with
  | .slot _ st => st == stream
  | .plain => false

/-- The WRITE FAULT notice of one owner (R88). The streams, which R88 gives for a slot, are the empty set for PLAIN, by the
model's choice (log 33). -/
def State.writeFaultNotice (s : State) (entries : List Entry) (outcome : AttemptFailure) (attempts : Nat)
    (owner : Option (Fin 4)) : Notice :=
  let own := ownedBy entries owner
  .writeFault
    (match owner with
      | none => .plain
      | some i => .slot i (s.slot i).clip)
    ⟨own.any (·.isStream .video), own.any (·.isStream .track), own.any (·.isStream .summary)⟩
    ((own.head?.map Entry.start).getD 0) (own.map Entry.count).sum outcome attempts

/-- A slot that owns entries of a failed transaction: its fault count, and its first fault block when absent (R88). -/
def Slot.fault (s : Slot) (start : Nat) : Slot :=
  { s with faults := satAdd s.faults 1, firstFault := some (s.firstFault.getD start) }

/-- Step 3 of R88 for one owner. -/
def State.faultOwner (entries : List Entry) (s : State) (owner : Option (Fin 4)) : State :=
  match owner with
  | none => s
  | some i => s.onSlot i fun sl => sl.fault (((ownedBy entries (some i)).head?.map Entry.start).getD 0)

/-- The owners of the entries, each once, in the order of their first entry (R88). -/
def owners (entries : List Entry) : List (Option (Fin 4)) := (entries.map Entry.slot?).eraseDups

/-- Attempts made in a transaction (R88). -/
def Transaction.attempts (t : Transaction) : Nat := 1 + t.counted + t.uncounted

/-- A WRITE transaction of k entries fails (R88). -/
def State.writeFailed (s : State) (t : Transaction) (k : Nat) (outcome : AttemptFailure) : State :=
  let entries := s.path.card.queue.take k
  let s := s.onCard fun c => { c with queue := c.queue.drop k }.countFailure
  let s := (s.releaseEntries entries).handBack entries .failed
  let s := (owners entries).foldl (State.faultOwner entries) s
  let s := (owners entries).foldl (fun s o => s.notify (s.writeFaultNotice entries outcome t.attempts o)) s
  s.judgeFailures

/-- A READ transaction fails (R94). -/
def State.readFailed (s : State) : State :=
  let head := s.path.card.reads.take 1
  let s := s.onCard fun c => { c with reads := c.reads.drop 1, readBuffer := .free }.countFailure
  (s.answerReads head .cardError).judgeFailures

/-! ### The end of an attempt (R82, R83, R86) -/

/-- An uncounted retry is taken (R86 step 1). -/
def Card.retryUncounted (c : Card) (t : Transaction) : Card :=
  { c with
    transaction := some { t with phase := .waitRetry, uncounted := t.uncounted + 1 }
    uncountedRetries := satAdd c.uncountedRetries 1 }

/-- A counted retry is taken (R86 step 2). -/
def Card.retryCounted (c : Card) (t : Transaction) : Card :=
  { c with
    transaction := some { t with phase := .waitRetry, counted := t.counted + 1 }
    countedRetries := satAdd c.countedRetries 1 }

/-- An attempt ends in an outcome other than DONE, and the transaction is judged (R86). -/
def State.endAttempt (s : State) (t : Transaction) (outcome : AttemptFailure) : State :=
  let s := s.onCard fun c => { c with response := none, busy := none }
  if t.overlap = true ∧ t.uncounted < Config.uncountedLimit then s.onCard fun c => c.retryUncounted t
  else if t.counted < s.path.card.retryLimit then s.onCard fun c => c.retryCounted t
  else
    match t.work with
    | .write k => s.writeFailed t k outcome
    | .read => s.readFailed

/-- A completed VIDEO entry: blocks written, and the retained entry after it (R77). -/
def State.completeEntry (s : State) (e : Entry) : State :=
  match e.owner with
  | .slot i .video =>
    let s := s.onSlot i fun sl => { sl with written := satAdd sl.written e.count }
    s.retainWritten i (s.slot i).written
  | _ => s

/-- A WRITE transaction of k entries ends DONE (R77, R82). -/
def State.writeDone (s : State) (k : Nat) : State :=
  let entries := s.path.card.queue.take k
  let s := s.onCard fun c =>
    { c with queue := c.queue.drop k, transaction := none, failures := 0, response := none, busy := none }
  (entries.foldl State.completeEntry ((s.releaseEntries entries).handBack entries .done))

/-- Phase 3 of a write attempt: the stop command and the busy deadline (R82). -/
def State.beginBusy (s : State) (t : Transaction) : State :=
  s.onCard fun c =>
    { c with
      transaction := some { t with phase := .busy }
      lastSignal := some .stopCommand
      response := none
      busy := some (later s.now (1000 * c.writeTimeout)) }

/-! ### The arbiter (R84, R85, R87, R92) -/

/-- The entries after the first that join a WRITE transaction: how many, and the blocks with them; `next` is the block
after the last one taken and `total` the blocks taken (R85). -/
def extend (queue : List Entry) (next total : Nat) : Nat × Nat :=
  match queue with
  | [] => (0, total)
  | e :: rest =>
    if e.start = next ∧ total + e.count ≤ Config.writeBlocks then
      let r := extend rest (next + e.count) (total + e.count)
      (r.1 + 1, r.2)
    else (0, total)

/-- A new transaction record, its first attempt about to begin. -/
def Transaction.new (work : Work) (start count : Nat) : Transaction :=
  ⟨work, start, count, .command, 0, 0, false, 0, false⟩

/-- An entry's number is at or before a fence (R92). -/
def atOrBefore (seq fence : BitVec 32) : Bool := decide ((fence - seq).toNat < 2147483648)

/-- The read is eligible: no entry remains at or before its fence (R92). -/
def Card.eligible (c : Card) (r : CardRead) : Bool :=
  match r.fence with
  | none => true
  | some fence => c.queue.all fun e => !atOrBefore e.seq fence

/-- The transaction the arbiter would begin with the card free: the oldest read when it is eligible and the read buffer
is free, otherwise the head of the write queue (R84, R85). -/
def Card.choose (c : Card) : Option Transaction :=
  let write : Option Transaction := match c.queue with
    | [] => none
    | e :: rest =>
      let r := extend rest (e.start + e.count) e.count
      some (Transaction.new (.write (r.1 + 1)) e.start r.2)
  match c.reads, c.readBuffer with
  | r :: _, .free => if c.eligible r then some (Transaction.new Work.read r.start r.count) else write
  | _, _ => write

/-- The transaction that begins now, when the card is free and there is work (R84). -/
def State.transactionDue (s : State) : Option Transaction :=
  if s.path.card.state = .ready ∧ s.path.card.transaction = none ∧ s.shockHeld = false then s.path.card.choose else none

/-- The retry that begins now (R87). -/
def State.retryDue (s : State) : Option Transaction :=
  match s.path.card.transaction with
  | some t => if t.phase = .waitRetry ∧ s.shockHeld = false then some t else none
  | none => none

/-- The command of an attempt (R82, R83). -/
def Transaction.command (t : Transaction) : CardSignal :=
  match t.work with
  | .write _ => .writeCommand t.start t.count
  | .read => .readCommand t.start t.count

/-- An attempt begins: the command sent, the marks clear, and for a READ the read buffer received into afresh (R82, R83,
R87). -/
def Card.attempt (c : Card) (t : Transaction) (now : Time) : Card :=
  { c with
    transaction := some { t with phase := .command, overlap := false, blocksDone := 0, refused := false }
    readBuffer := if t.work = Work.read then .filling [] else c.readBuffer }.send t.command now

/-- The wait deadline of the oldest read is removed as its READ transaction begins (R93). -/
def Card.unwait (c : Card) : Card :=
  match c.reads with
  | [] => c
  | r :: rest => { c with reads := { r with wait := none } :: rest }

/-! ### Commands: card states -/

/-- CARD_DETECT_RISE (R78): while ABSENT it sets the debounce deadline. -/
def execCardDetectRise (s : State) : Host.Outcome State Fault Refusal :=
  .next ((s.onPins fun p => { p with cardDetect := true }).whenUp fun s =>
    if s.path.card.state = .absent then
      s.onCard fun c => { c with debounce := some (later s.now Config.debounceUs) }
    else s)

/-- CARD_DETECT_FALL (R78): it ends a debounce, and in every other state it is a removal. -/
def execCardDetectFall (s : State) : Host.Outcome State Fault Refusal :=
  .next ((s.onPins fun p => { p with cardDetect := false }).whenUp fun s =>
    if s.path.card.state = .absent then s.onCard fun c => { c with debounce := none } else s.removeCard)

/-- CARD_DEBOUNCE_EXPIRY (R78). -/
def execCardDebounceExpiry (s : State) : Host.Outcome State Fault Refusal :=
  .next (s.whenUp fun s => s.expiry (s.path.card.debounce.map s.pathLeft) fun s => s.startCard .inserted)

/-- CARD_START_RESPONSE (R79). -/
def execCardStartResponse (response : StartResponse) (s : State) : Host.Outcome State Fault Refusal :=
  .next (s.whenUp fun s => if s.path.card.state = .starting then s.startResponse response else s)

/-- START_DEADLINE_EXPIRY (R79). -/
def execStartDeadlineExpiry (s : State) : Host.Outcome State Fault Refusal :=
  .next (s.whenUp fun s => s.expiry (s.path.card.startDeadline.map s.pathLeft) fun s =>
    s.teardown .failed .startFailed .failed)

/-- CARD_RESCAN (R80). -/
def execCardRescan (tag : Byte) (s : State) : Host.Outcome State Fault Refusal :=
  .next (s.request tag .control fun s =>
    match s.path.card.state with
    | .absent => s.answer tag .badState
    | .starting => s.answer tag .busy
    | .ready =>
      if s.path.card.queue.isEmpty && s.path.card.reads.isEmpty then (s.startCard .rescan).answer tag .accepted
      else s.answer tag .badState
    | .failed => (s.startCard .rescan).answer tag .accepted)

/-- CARD_SETUP (R81). -/
def execCardSetup (tag : Byte) (retryLimit writeTimeout readWait : Nat) (s : State) : Host.Outcome State Fault Refusal :=
  .next (s.request tag .control fun s =>
    if checkCardSetup retryLimit writeTimeout readWait then
      (s.onCard fun c =>
        { c with retryLimit := retryLimit, writeTimeout := writeTimeout, readWait := readWait }).answer tag .ok
    else s.answer tag .badArg)

/-! ### Commands: transactions -/

/-- TRANSACTION_BEGIN (R84, R85, R93, R95). -/
def execTransactionBegin (s : State) : Host.Outcome State Fault Refusal :=
  .next (s.whenUp fun s =>
    match s.transactionDue with
    | none => s
    | some t =>
      s.onCard fun c =>
        let c := { c with transactions := satAdd c.transactions 1 }.attempt t s.now
        if t.work = .read then c.unwait else c)

/-- CARD_COMMAND_RESPONSE (R82, R83). -/
def execCardCommandResponse (good : Bool) (s : State) : Host.Outcome State Fault Refusal :=
  .next (s.whenUp fun s =>
    match s.path.card.transaction with
    | none => s
    | some t =>
      if t.phase ≠ .command then s
      else if good = false then s.endAttempt t .crcError
      else
        s.onCard fun c =>
          let c := { c with transaction := some { t with phase := .data } }
          match t.work with
          | .write _ => c.send (.dataBlock 0) s.now
          | .read => c.await s.now)

/-- WRITE_BLOCK_ACK (R82). -/
def execWriteBlockAck (good : Bool) (s : State) : Host.Outcome State Fault Refusal :=
  .next (s.whenUp fun s =>
    match s.path.card.transaction with
    | none => s
    | some t =>
      if t.phase ≠ .data ∨ t.work = .read then s
      else if good = false then s.beginBusy { t with refused := true }
      else
        let t := { t with blocksDone := t.blocksDone + 1 }
        if t.blocksDone < t.count then
          s.onCard fun c => { c with transaction := some t }.send (.dataBlock t.blocksDone) s.now
        else s.beginBusy t)

/-- BUSY_END (R82). -/
def execBusyEnd (s : State) : Host.Outcome State Fault Refusal :=
  .next (s.whenUp fun s =>
    match s.path.card.transaction with
    | none => s
    | some t =>
      match t.phase, t.work with
      | .busy, .write k => if t.refused then s.endAttempt t .crcError else s.writeDone k
      | _, _ => s)

/-- BUSY_TIMEOUT: expiry of the busy deadline (R82). -/
def execBusyTimeout (s : State) : Host.Outcome State Fault Refusal :=
  .next (s.whenUp fun s => s.expiry (s.path.card.busy.map s.pathLeft) fun s =>
    match s.path.card.transaction with
    | none => s
    | some t => s.endAttempt t .busyTimeout)

/-- The stop command of a read attempt that fails in its data phase (R83). -/
def Card.stopRead (c : Card) (t : Transaction) : Card :=
  if t.work = .read ∧ t.phase = .data then { c with lastSignal := some .stopCommand } else c

/-- CARD_RESPONSE_TIMEOUT: expiry of the response deadline, in the start sequence or in an attempt (R79, R82, R83). -/
def execCardResponseTimeout (s : State) : Host.Outcome State Fault Refusal :=
  .next (s.whenUp fun s => s.expiry (s.path.card.response.map s.pathLeft) fun s =>
    match s.path.card.transaction with
    | none => if s.path.card.state = .starting then s.onCard fun c => c.startOver s.now else s
    | some t => (s.onCard fun c => c.stopRead t).endAttempt t .noResponse)

/-- A good block of a read; the last one ends the transaction DONE, and the data is offered upstream (R83, R94). -/
def State.readBlock (s : State) (t : Transaction) (blocks : List Block) : State :=
  if blocks.length < t.count then s.onCard fun c => { c with readBuffer := .filling blocks }.await s.now
  else
    (s.onCard fun c => { c with transaction := none, response := none, failures := 0 }).offerRead
      ((s.path.card.reads.head?.map CardRead.tag).getD 0) blocks

/-- READ_BLOCK_RECEIVED: a block with a good check, or one that failed it (R83). -/
def execReadBlockReceived (block : Option Block) (s : State) : Host.Outcome State Fault Refusal :=
  .next (s.whenUp fun s =>
    match s.path.card.transaction, s.path.card.readBuffer with
    | some t, .filling blocks =>
      if t.work ≠ .read ∨ t.phase ≠ .data then s
      else
        match block with
        | none => (s.onCard fun c => c.stopRead t).endAttempt t .crcError
        | some b => s.readBlock t (blocks ++ [b])
    | _, _ => s)

/-- RETRY_BEGIN (R87). -/
def execRetryBegin (s : State) : Host.Outcome State Fault Refusal :=
  .next (s.whenUp fun s =>
    match s.retryDue with
    | none => s
    | some t => s.onCard fun c => c.attempt t s.now)

/-! ### Commands: reads -/

/-- An outstanding read of the same blocks (R91). -/
def Card.pendingRead (c : Card) (a : ReadArgs) : Option CardRead :=
  c.reads.find? fun r => decide (r.start = a.start ∧ r.count = a.count)

/-- The sequence number of the newest entry, or none (R92). -/
def Card.fence (c : Card) : Option (BitVec 32) := c.queue.getLast?.map Entry.seq

/-- A read with a good payload (R91, R92, R93). -/
def State.takeRead (s : State) (tag : Byte) (a : ReadArgs) : State :=
  if !within a.count 1 8 then s.answer tag .badArg
  else if s.path.card.state ≠ .ready then s.answer tag .noCard
  else if s.path.card.capacity.getD 0 < a.start + a.count then s.answer tag .outOfRange
  else
    match s.path.card.pendingRead a with
    | some r => s.reply tag .duplicate (.readTag r.tag)
    | none =>
      if Config.readsOutstanding ≤ s.path.card.reads.length then s.answer tag .busy
      else
        s.onCard fun c =>
          { c with reads := c.reads ++ [⟨tag, a.start, a.count, c.fence, some (later s.now (1000 * c.readWait))⟩] }

/-- CARD_READ (R160, R91). -/
def execCardRead (tag : Byte) (payload : Option ReadArgs) (s : State) : Host.Outcome State Fault Refusal :=
  .next (s.request tag .cardRead fun s =>
    match payload with
    | none => s.countPayloadError.answer tag .badCheck
    | some a => s.takeRead tag a)

/-- The first read whose wait deadline has arrived leaves the list (R93). -/
def takeArrived (arrived : Time → Bool) (reads : List CardRead) : Option CardRead × List CardRead :=
  match reads with
  | [] => (none, [])
  | r :: rest =>
    if r.wait.any arrived then (some r, rest)
    else
      let t := takeArrived arrived rest
      (t.1, r :: t.2)

/-- READ_WAIT_TIMEOUT: expiry of the wait deadline of a read that has not begun (R93, log 29). -/
def execReadWaitTimeout (s : State) : Host.Outcome State Fault Refusal :=
  .next (s.whenUp fun s => s.expiry s.readWaitLeft fun s =>
    let t := takeArrived (fun d => s.pathLeft d = 0) s.path.card.reads
    match t.1 with
    | none => s
    | some r => (s.onCard fun c => { c with reads := t.2 }).answer r.tag .timeout)

end Sys2Proof.Machine
end

