-- ==== Sys2Proof/Machine/Energy.lean ====
section
/-! DEFINITION. What the monitor domain measures (07, R117, R118, R121), the energy state (10, R151 and R152), and the
commands of reset. -/

namespace Sys2Proof.Machine

/-! ### Latest results and derived values -/

/-- The history of a channel (R117). -/
def Histories.get (h : Histories) (c : Channel) : List Measured :=
  match c with
  | .current => h.current
  | .cell1 => h.cell1
  | .cell2 => h.cell2
  | .input => h.input
  | .battTemp => h.battTemp
  | .dieTemp => h.dieTemp
  | .pack => h.pack

/-- The history of a channel replaced. -/
def Histories.set (h : Histories) (c : Channel) (l : List Measured) : Histories :=
  match c with
  | .current => { h with current := l }
  | .cell1 => { h with cell1 := l }
  | .cell2 => { h with cell2 := l }
  | .input => { h with input := l }
  | .battTemp => { h with battTemp := l }
  | .dieTemp => { h with dieTemp := l }
  | .pack => { h with pack := l }

/-- The latest result of a channel; none when the channel is unknown (R117). -/
def State.latest (s : State) (c : Channel) : Option Int := (s.mon.conv.histories.get c).head?.map Measured.value

/-- The lower cell: unknown when either cell is (R118). -/
def State.lowerCell (s : State) : Option Int :=
  match s.latest .cell1, s.latest .cell2 with
  | some a, some b => some (min a b)
  | _, _ => none

/-- The higher cell: unknown when either cell is (R118). -/
def State.higherCell (s : State) : Option Int :=
  match s.latest .cell1, s.latest .cell2 with
  | some a, some b => some (max a b)
  | _, _ => none

/-- A value lies at or above a threshold; an unknown one lies below every threshold (R118). -/
def atLeast (v : Option Int) (threshold : Int) : Bool :=
  match v with
  | none => false
  | some x => decide (threshold ≤ x)

/-- A value lies below a threshold; an unknown one does (R118). -/
def below (v : Option Int) (threshold : Int) : Bool := !atLeast v threshold

/-- A value lies above a limit; an unknown one does not (R118, R144). -/
def above (v : Option Int) (limit : Int) : Bool :=
  match v with
  | none => false
  | some x => decide (limit < x)

/-- SoC = min(1000, floor(Q / C)), in per mille (R121). -/
def Converter.soc (c : Converter) : Int := min 1000 (c.charge.fdiv c.capacity)

/-! ### The energy state -/

/-- The first row of R151 that holds. -/
def State.computeEnergy (s : State) : EnergyState :=
  if s.mon.prot.earlyWarning then .critical
  else if s.mon.chg.inputPresent then .supplied
  else if (s.mon.conv.seeded && decide (s.mon.conv.soc < s.mon.energy.reserve)) ||
      below s.lowerCell s.mon.energy.lowCell then .low
  else .battery

/-- The state is recomputed; a change is noticed, and entry to CRITICAL hands the emergency seal while the path domain
is up (R152). -/
def State.settleEnergy (s : State) (cause : EnergyCause) : State :=
  let new := s.computeEnergy
  let old := s.mon.energy.state
  if new = old then s
  else
    let s := (s.onEnergy fun e => { e with state := new }).notify
      (.energyState new old cause s.mon.conv.soc s.mon.conv.seeded s.lowerCell s.monNow)
    if new = .critical ∧ s.pathUp = true then s.emergencySeal else s

/-- The charge is set from a known point: Q, remainder 0, seeded; a change of the SoC or of the seeded flag is handed to
the energy monitor (R121, R123). -/
def State.calibrate (s : State) (charge : Int) : State :=
  let new := s.onConv fun c => { c with charge := charge, remainder := 0, seeded := true }
  if new.mon.conv.soc ≠ s.mon.conv.soc ∨ s.mon.conv.seeded = false then new.settleEnergy .soc else new

/-! ### Commands of reset (R110, R154, R156, R157) -/

/-- POWER_ON_RESET: the monitor domain takes its POR values and a path reset with cause POR begins; the pins are the
world's, and commands that wait still wait (R110, R156). -/
def execPowerOnReset (s : State) : Host.Outcome State Fault Refusal :=
  .next { State.reset with pins := s.pins, pending := s.pending }

/-- PATH_RESET_END: the path domain leaves reset, PATH READY is offered with the retained clips, and the list is emptied;
a card-detect that is high counts as a rise at that moment (R78, R156). The lane is free, so its arbiter chooses: the
CREDIT cell carrying 0 (R164, R168). -/
def execPathResetEnd (s : State) : Host.Outcome State Fault Refusal :=
  .next (s.expiry (s.mon.energy.resetEnd.map s.monLeft) fun s =>
    let ready := Notice.pathReady s.mon.energy.cause s.mon.energy.retained s.mon.energy.state s.mon.chg.state
    (((s.onEnergy fun e => { e with resetEnd := none, retained := [] }).onLink fun l => l.offer ready).onCard fun c =>
      if s.pins.cardDetect then { c with debounce := some (later s.now Config.debounceUs) } else c).chooseUnit)

/-- PATH_RESET: refused for an unknown flag, or with force NO while a slot is not FREE or the write queue is not empty;
otherwise the path domain resets at once and the request receives no reply (R157). -/
def execPathReset (tag : Byte) (force : Option Bool) (s : State) : Host.Outcome State Fault Refusal :=
  .next (s.request tag .control fun s =>
    match force with
    | none => s.answer tag .badArg
    | some forced =>
      if forced = false ∧ ((slotIndices.any fun i => (s.slot i).state != .free) = true ∨ s.path.card.queue ≠ []) then
        s.answer tag .badState
      else s.beginPathReset .request)

end Sys2Proof.Machine
end

