-- ==== Sys2Proof/Machine/Switch.lean ====
section
/-! DEFINITION. The protection unit's shared operations (08): switches, trips, lockout, clearing. -/

namespace Sys2Proof.Machine

/-- The latches that force the balance switches off (R133). -/
def Protection.forced (p : Protection) : Bool := p.dischargeTrip || p.chargeTrip || p.lockout || p.duvCut

/-- The discharge switch is on exactly when the request is ON and the trip and DUV cut latches are clear (R129). -/
def Protection.dischargeOn (p : Protection) : Bool := p.dischargeRequest && !p.dischargeTrip && !p.duvCut

/-- The charge switch is on exactly in CC and CV with no charge trip and no COV blocking (R129). -/
def Protection.chargeOn (p : Protection) (c : ChargerState) : Bool :=
  (c == .cc || c == .cv) && !p.chargeTrip && !p.covBlocking

/-- The precharge switch is on exactly in PRECHARGE with no COV blocking (R129). -/
def Protection.prechargeOn (p : Protection) (c : ChargerState) : Bool := c == .precharge && !p.covBlocking

/-- The balance outputs (R133): forced off, or after the charger's demand in AUTO, or after the settings in MANUAL. -/
def Protection.balanceOn (p : Protection) (demand : Demand) : Bool × Bool :=
  if p.forced then (false, false)
  else match p.balanceMode with
    | .auto => (demand == .cell1, demand == .cell2)
    | .manual => (p.manual1, p.manual2)

/-- The five outputs recomputed (R129, R133). -/
def Protection.computeSwitches (p : Protection) (c : ChargerState) (demand : Demand) : Switches :=
  ⟨p.dischargeOn, p.chargeOn c, p.prechargeOn c, (p.balanceOn demand).1, (p.balanceOn demand).2⟩

/-- The SC delay in microseconds: steps of 50 µs (R125). -/
def ProtectSettings.scUs (p : ProtectSettings) : Nat := 50 * p.scSteps

/-- The SC count across a change of the discharge switch: an opening stops it, a closing with the signal standing starts
it (R124, R125). -/
def Protection.scAcross (p : Protection) (on signal : Bool) : Option Nat :=
  if !on then none
  else if !p.switches.discharge && signal then some p.settings.scUs
  else p.scLeft

/-- The outputs recomputed, with the timers that a switch that opens removes (R124, R129), and then the rail (R153). -/
def State.settleSwitches (s : State) : State :=
  (s.onProt fun p =>
    let new := p.computeSwitches s.mon.chg.state s.mon.chg.demand
    { p with
      scLeft := p.scAcross new.discharge s.pins.scSignal
      doc := if new.discharge then p.doc else none
      coc := if new.charge then p.coc else none
      switches := new }).settleRail

/-! ### Trips (R130, R131, R135) -/

/-- Earlier trips less than 10,000 ms before now (R131). -/
def freshTrips (trips : List Time) (now : Time) : List Time :=
  trips.filter fun t => decide ((now - t).toNat < Config.lockoutWindowMs)

/-- The judgement of a discharge trip for lockout: with two fresh trips before it, this is the third (R131). -/
def Protection.judgeLockout (p : Protection) (now : Time) : Protection :=
  let fresh := freshTrips p.recentTrips now
  if 2 ≤ fresh.length then { p with lockout := true, recoveryArmed := false, recentTrips := [] }
  else { p with recentTrips := fresh ++ [now] }

/-- The latches of a discharge current trip (R130 steps 1 to 4). -/
def Protection.tripDischarge (p : Protection) (now : Time) : Protection :=
  { p with
    dischargeTrip := true
    dischargeRequest := false
    dischargeHoldoff := some (later now Config.holdoffMs)
    recoveryArmed := p.settings.autoRecovery }.judgeLockout now

/-- A discharge current trip (R130): latches, switches, and a PROTECTION TRIP notice, which a rail loss suppresses. -/
def State.dischargeTrip (s : State) (condition : Condition) (measurement : Option Int) : State :=
  let before_ := s.mon.prot.lockout
  let s := (s.onProt fun p => p.tripDischarge s.monNow).settleSwitches
  s.notify (.protectionTrip condition .dischargeOff measurement s.monNow (s.mon.prot.lockout && !before_) Config.holdoffMs)

/-- A charge current trip (R130). -/
def State.chargeTrip (s : State) : State :=
  let s := (s.onProt fun p =>
    { p with chargeTrip := true, coc := none, chargeHoldoff := some (later s.monNow Config.holdoffMs) }).settleSwitches
  s.notify (.protectionTrip .coc .chargeOff (s.latest .current) s.monNow false Config.holdoffMs)

/-- A PROTECTION CLEAR notice, with the discharge output after the event (R135). -/
def State.noticeClear (s : State) (cleared : Cleared) (cause : ClearCause) : State :=
  s.notify (.protectionClear cleared cause s.monNow s.mon.prot.switches.discharge)

/-- Input becomes present: lockout and DUV cut are cleared, and when either was, the request is ON (R131). -/
def State.protectInput (s : State) : State :=
  let lockout := s.mon.prot.lockout
  let cut := s.mon.prot.duvCut
  if lockout || cut then
    let s := (s.onProt fun p =>
      { p with
        lockout := false
        duvCut := false
        recentTrips := if lockout then [] else p.recentTrips
        dischargeRequest := true }).settleSwitches
    let s := if lockout then s.noticeClear .lockout .inputPresent else s
    if cut then s.noticeClear .duvCut .inputPresent else s
  else s

end Sys2Proof.Machine
end

