-- ==== Sys2Proof/Machine/Charge.lean ====
section
/-! DEFINITION. The charger (09): timers, state changes, temperature, holds, the input floor loop, balance demand; and
its commands. -/

namespace Sys2Proof.Machine

/-! ### Timers (R143) -/

/-- A timer at the entry to a state in which it runs: started in full when absent, resumed when paused. -/
def ChargeTimer.resume (t : ChargeTimer) (now : Time) (fullMs : Nat) : ChargeTimer :=
  match t with
  | .absent => .running (later now fullMs)
  | .paused remaining => .running (now + remaining)
  | .running d => .running d

/-- A running timer keeps its remaining time. -/
def ChargeTimer.pause (t : ChargeTimer) (now : Time) : ChargeTimer :=
  match t with
  | .running d => .paused (d - now)
  | t => t

/-- A period in minutes, in ms. -/
def minutesMs (n : Nat) : Nat := 60000 * n

/-! ### State changes (R137 to R143, R145) -/

/-- What leaving the present state for a new one does: the zero deadline goes with CC, a running timer is paused for
QUALIFY and HOLD, and PRECHARGE left for CC removes its timer (R140, R143, R146). -/
def Charger.leave (c : Charger) (new : ChargerState) (now : Time) : Charger :=
  let paused := new = .qualify ∨ new = .hold
  { c with
    zero := if c.state = .cc then none else c.zero
    prechargeTimer :=
      if c.state = .precharge ∧ new = .cc then .absent
      else if paused then c.prechargeTimer.pause now else c.prechargeTimer
    fastTimer := if paused then c.fastTimer.pause now else c.fastTimer }

/-- The clearing at the entry to NO_INPUT and INHIBITED (R138). -/
def Charger.clearAll (c : Charger) : Charger :=
  { c with
    prechargeTimer := .absent, fastTimer := .absent, qualify := none, zero := none, weakClear := none
    causes := .empty, lowCount := 0 }

/-- The entry effects of a state (R138 to R143, R145). -/
def Charger.enter (c : Charger) (new : ChargerState) (now : Time) (causes : HoldCauses) : Charger :=
  let c := { c with state := new }
  match new with
  | .noInput => c.clearAll
  | .inhibited => c.clearAll
  | .qualify => { c with qualify := some (later now Config.qualifyMs), causes := .empty }
  | .precharge => { c with prechargeTimer := c.prechargeTimer.resume now (minutesMs c.settings.prechargeMin) }
  | .cc =>
    { c with fastTimer := c.fastTimer.resume now (minutesMs c.settings.fastMin), iFloor := c.iccEff, zero := none }
  | .cv => { c with lowCount := 0, zero := none }
  | .done => { c with prechargeTimer := .absent, fastTimer := .absent, lowCount := 0 }
  | .hold => { c with causes := causes, zero := none }
  | .fault => { c with prechargeTimer := .absent, fastTimer := .absent }

/-- The setpoint: min(I_cc_eff, I_floor) in CC, 0 in every other state (R147). -/
def Charger.computeSetpoint (c : Charger) : Nat := if c.state = .cc then min c.iccEff c.iFloor else 0

/-- The setpoint recomputed (R147). -/
def Charger.settleSetpoint (c : Charger) : Charger := { c with setpoint := c.computeSetpoint }

/-- The balance demand after the difference of the cells (R148). -/
def nextDemand (held : Demand) (cell1 cell2 : Option Int) : Demand :=
  match cell1, cell2 with
  | some a, some b =>
    let dV := a - b
    match held with
    | .none => if 30 < dV then .cell1 else if dV < -30 then .cell2 else .none
    | .cell1 => if dV < -30 then .cell2 else if dV < 10 then .none else .cell1
    | .cell2 => if 30 < dV then .cell1 else if -10 < dV then .none else .cell2
  | _, _ => .none

/-- The demand recomputed: formed in CV and DONE alone (R148). -/
def State.settleDemand (s : State) : State :=
  s.onChg fun c =>
    { c with
      demand := if c.state = .cv ∨ c.state = .done then nextDemand c.demand (s.latest .cell1) (s.latest .cell2)
        else .none }

/-- A change of the charger state, in the order of R137; into DONE it hands the charge-done calibration (R142). A move
into the state already held is no change. -/
def State.moveCharger (s : State) (new : ChargerState) (cause : ChargerCause) (causes : HoldCauses) : State :=
  let old := s.mon.chg.state
  if old = new then s
  else
    let s := s.onChg fun c => (c.leave new s.monNow).enter new s.monNow causes
    let s := (s.settleDemand.onChg Charger.settleSetpoint).settleSwitches
    let s := s.notify (.chargerState new old cause s.mon.chg.causes s.mon.chg.setpoint s.monNow)
    if new = .done then s.calibrate (s.mon.conv.capacity * 1000) else s

/-- A charging state with a running timer: PRECHARGE, CC or CV (R144, R145). -/
def ChargerState.charging (c : ChargerState) : Bool := c == .precharge || c == .cc || c == .cv

/-- A hold condition begins: HOLD from a charging state, a further cause in HOLD, nothing in the others (R144, R145). -/
def State.beginHold (s : State) (cause : HoldCause) : State :=
  if s.mon.chg.state.charging then s.moveCharger .hold .holdEntered (HoldCauses.empty.put cause true)
  else if s.mon.chg.state = .hold then s.onChg fun c => { c with causes := c.causes.put cause true }
  else s

/-- A hold condition ends: its cause is removed, and with the last one HOLD ends in QUALIFY (R145). -/
def State.endHold (s : State) (cause : HoldCause) : State :=
  if s.mon.chg.state = .hold then
    let s := s.onChg fun c => { c with causes := c.causes.put cause false }
    if s.mon.chg.causes.isEmpty then s.moveCharger .qualify .holdCleared .empty else s
  else s

/-! ### Temperature (R144) -/

/-- I_cc_eff: I_cc, halved while the battery is above 400 or the die above 950 (R144). -/
def State.computeIccEff (s : State) : Nat :=
  if above (s.latest .battTemp) 400 || above (s.latest .dieTemp) 950 then s.mon.chg.settings.icc / 2
  else s.mon.chg.settings.icc

/-- I_cc_eff recomputed, with I_floor lowered to it and the setpoint recomputed (R144, R147). -/
def State.settleIccEff (s : State) : State :=
  s.onChg fun c =>
    { c with iccEff := s.computeIccEff, iFloor := min c.iFloor s.computeIccEff }.settleSetpoint

/-- The temperature window after a BATT_TEMP result (R144). -/
def windowAfter (inside : Bool) (t : Int) : Bool :=
  if inside then decide (0 ≤ t ∧ t ≤ 450) else decide (20 ≤ t ∧ t ≤ 430)

/-- Die hot after a DIE_TEMP result (R144). -/
def dieHotAfter (hot : Bool) (t : Int) : Bool := if 1100 ≤ t then true else if t < 1000 then false else hot

/-- A BATT_TEMP result at the charger (R144, R145). -/
def State.chargerBattTemp (s : State) (t : Int) : State :=
  let old := s.mon.chg.windowInside
  let new := windowAfter old t
  let s := (s.onChg fun c => { c with windowInside := new }).settleIccEff
  if old && !new then s.beginHold .temp else if !old && new then s.endHold .temp else s

/-- Die hot becomes set or clear (R144, R145). -/
def State.setDieHot (s : State) (new : Bool) : State :=
  let old := s.mon.chg.dieHot
  let s := (s.onChg fun c => { c with dieHot := new }).settleIccEff
  if !old && new then s.beginHold .die else if old && !new then s.endHold .die else s

/-- A DIE_TEMP result at the charger (R144). -/
def State.chargerDieTemp (s : State) (t : Int) : State := s.setDieHot (dieHotAfter s.mon.chg.dieHot t)

/-! ### Cells and current (R140 to R142, R148) -/

/-- A CELL1 or CELL2 result at the charger: judged once, in the state it finds (R137, R140, R141, R142), and in CV and
DONE the balance demand recomputed (R148). -/
def State.chargerCell (s : State) : State :=
  match s.mon.chg.state with
  | .precharge =>
    if atLeast s.lowerCell (s.mon.chg.settings.prechargeMv + 100) then s.moveCharger .cc .prechargeDone .empty else s
  | .cc => if atLeast s.higherCell s.mon.chg.settings.vcv then s.moveCharger .cv .cvReached .empty else s
  | .cv => s.settleDemand.settleSwitches
  | .done =>
    if below s.higherCell (s.mon.chg.settings.vcv - 150) then s.moveCharger .qualify .recharge .empty
    else s.settleDemand.settleSwitches
  | _ => s

/-- A CURRENT result at the charger: in CV the termination count, and DONE at the tenth low current (R141). -/
def State.chargerCurrent (s : State) (milliamps : Int) : State :=
  if s.mon.chg.state = .cv then
    let low := s.mon.prot.switches.charge && decide (milliamps < s.mon.chg.settings.iterm)
    let s := s.onChg fun c => { c with lowCount := if low then c.lowCount + 1 else 0 }
    if Config.terminationCount ≤ s.mon.chg.lowCount then s.moveCharger .done .terminated .empty else s
  else s

/-! ### Input (R136, R146) -/

/-- Input becomes absent: the rail, NO_INPUT, and the energy monitor (R136, R138, R153). -/
def State.inputAbsent (s : State) : State :=
  let s := (s.onChg fun c => { c with inputPresent := false, highCount := 0 }).settleRail
  (s.moveCharger .noInput .inputAbsent .empty).settleEnergy .inputAbsent

/-- Input becomes present: the rail, INHIBITED or QUALIFY, the protection unit's clearing, and the energy monitor (R131,
R136, R153). Both changes of the charger carry the cause INPUT_PRESENT, the one to INHIBITED by log 16. -/
def State.inputPresent (s : State) : State :=
  let s := (s.onChg fun c => { c with inputPresent := true, highCount := 3 }).settleRail
  let s := if s.mon.chg.state = .noInput then
      s.moveCharger (if s.mon.chg.inhibit then .inhibited else .qualify) .inputPresent .empty else s
  s.protectInput.settleEnergy .inputPresent

/-- The judgement of presence at an INPUT result (R136). -/
def State.judgeInput (s : State) (mv : Int) : State :=
  if s.mon.chg.inputPresent then if mv < 4000 then s.inputAbsent else s
  else if 4300 ≤ mv then
    if 2 ≤ s.mon.chg.highCount then s.inputPresent
    else s.onChg fun c => { c with highCount := c.highCount + 1 }
  else s.onChg fun c => { c with highCount := 0 }

/-- I_floor after an INPUT result in CC (R146). -/
def floorAfter (c : Charger) (mv : Int) : Nat :=
  let step := c.settings.icc / 16
  if mv < c.settings.vfloor then c.iFloor - step
  else if (c.settings.vfloor : Int) + 200 ≤ mv then min c.iccEff (c.iFloor + step)
  else c.iFloor

/-- The floor loop at an INPUT result in CC, with the zero deadline (R146) and the setpoint (R147). -/
def Charger.floorLoop (c : Charger) (mv : Int) (now : Time) : Charger :=
  let floor := floorAfter c mv
  { c with
    iFloor := floor
    zero := if floor = 0 then (if c.iFloor = 0 then c.zero else some (later now Config.zeroMs)) else none }.settleSetpoint

/-- An INPUT result at the charger: presence, then the floor loop while in CC (R136, R146). -/
def State.chargerInput (s : State) (mv : Int) : State :=
  let s := s.judgeInput mv
  if s.mon.chg.state = .cc then s.onChg fun c => c.floorLoop mv s.monNow else s

/-! ### Commands -/

/-- QUALIFY_DEADLINE_EXPIRY: HOLD with the causes that stand, PRECHARGE, or CC (R139). -/
def execQualifyDeadlineExpiry (s : State) : Host.Outcome State Fault Refusal :=
  .next (s.expiry (s.mon.chg.qualify.map s.monLeft) fun s =>
    let s := s.onChg fun c => { c with qualify := none }
    let causes : HoldCauses := ⟨!s.mon.chg.windowInside, s.mon.chg.dieHot, s.mon.prot.covBlocking, false⟩
    if !causes.isEmpty then s.moveCharger .hold .holdEntered causes
    else if below s.lowerCell s.mon.chg.settings.prechargeMv then s.moveCharger .precharge .qualified .empty
    else s.moveCharger .cc .qualified .empty)

/-- PRECHARGE_TIMER_EXPIRY (R140). -/
def execPrechargeTimerExpiry (s : State) : Host.Outcome State Fault Refusal :=
  .next (s.expiry (s.mon.chg.prechargeTimer.deadline.map s.monLeft) fun s =>
    s.moveCharger .fault .prechargeTimer .empty)

/-- FAST_TIMER_EXPIRY (R141). -/
def execFastTimerExpiry (s : State) : Host.Outcome State Fault Refusal :=
  .next (s.expiry (s.mon.chg.fastTimer.deadline.map s.monLeft) fun s => s.moveCharger .fault .fastTimer .empty)

/-- ZERO_DEADLINE_EXPIRY: HOLD with cause INPUT_WEAK, and the weak-clear deadline (R146). -/
def execZeroDeadlineExpiry (s : State) : Host.Outcome State Fault Refusal :=
  .next (s.expiry (s.mon.chg.zero.map s.monLeft) fun s =>
    let s := s.onChg fun c => { c with zero := none, weakClear := some (later s.monNow Config.weakClearMs) }
    s.beginHold .inputWeak)

/-- WEAK_CLEAR_EXPIRY (R145, R146). -/
def execWeakClearExpiry (s : State) : Host.Outcome State Fault Refusal :=
  .next (s.expiry (s.mon.chg.weakClear.map s.monLeft) fun s =>
    (s.onChg fun c => { c with weakClear := none }).endHold .inputWeak)

/-- CHARGE_INHIBIT (R138). -/
def execChargeInhibit (tag : Byte) (on : Option Bool) (s : State) : Host.Outcome State Fault Refusal :=
  .next (s.request tag .control fun s =>
    match on with
    | none => s.answer tag .badArg
    | some true =>
      let s := s.onChg fun c => { c with inhibit := true }
      (if s.mon.chg.state = .noInput then s else s.moveCharger .inhibited .inhibitOn .empty).answer tag .ok
    | some false =>
      let s := s.onChg fun c => { c with inhibit := false }
      (if s.mon.chg.state = .inhibited then s.moveCharger .qualify .inhibitOff .empty else s).answer tag .ok)

/-- CHARGE_SETUP (R149). -/
def execChargeSetup (tag : Byte) (args : ChargeSettings) (s : State) : Host.Outcome State Fault Refusal :=
  .next (s.request tag .control fun s =>
    if checkCharge args then (s.onChg fun c => { c with settings := args }).settleIccEff.answer tag .ok
    else s.answer tag .badArg)

end Sys2Proof.Machine
end

