-- ==== Sys2Proof/Machine/Protect.lean ====
section
/-! DEFINITION. The protection unit's evaluations (08, R124 to R128) and commands. -/

namespace Sys2Proof.Machine

/-! ### Evaluations -/

/-- A timer at an evaluation: started with the full delay when the condition is met and none runs, removed when it is
not met (R124). -/
def evaluate (timer : Option Time) (meets : Bool) (now : Time) (delayMs : Nat) : Option Time :=
  if meets then some (timer.getD (later now delayMs)) else none

/-- DOC and COC at a current result, each while its switch is on (R124, R126). -/
def Protection.evalCurrent (p : Protection) (milliamps : Int) (now : Time) : Protection :=
  { p with
    doc := if p.switches.discharge then evaluate p.doc (decide (milliamps ≤ -(p.settings.docMa : Int))) now p.settings.docMs
      else p.doc
    coc := if p.switches.charge then evaluate p.coc (decide ((p.settings.cocMa : Int) ≤ milliamps)) now p.settings.cocMs
      else p.coc }

/-- COV at a cell result: its timer while blocking does not stand, and the release while it does (R124, R127). PROTECTION
CLEAR is offered before the CHARGER STATE of the hold that ends, by the model's choice (log 7). -/
def State.evalCov (s : State) : State :=
  if s.mon.prot.covBlocking then
    if below s.higherCell (s.mon.prot.settings.covMv - 150) then
      ((s.onProt fun p => { p with covBlocking := false }).settleSwitches.noticeClear .covBlock .release).endHold .cov
    else s
  else
    s.onProt fun p =>
      { p with cov := evaluate p.cov (atLeast s.higherCell p.settings.covMv) s.monNow p.settings.covMs }

/-- The DUV timer as it starts: the cut deadline and the early warning deadline 1500 ms before it (R128). -/
def DuvTimer.start (now : Time) (delayMs : Nat) : DuvTimer :=
  ⟨later now delayMs, some (later now (delayMs - Config.warningMs))⟩

/-- The early warning ends, and the energy monitor is told (R128). -/
def State.endWarning (s : State) : State :=
  if s.mon.prot.earlyWarning then
    (s.onProt fun p => { p with earlyWarning := false }).settleEnergy .warningEnded
  else s

/-- DUV at a cell result, while the cut is not latched (R124, R128). -/
def State.evalDuv (s : State) : State :=
  let p := s.mon.prot
  if p.duvCut then s
  else
    match p.duv with
    | none =>
      if below s.lowerCell p.settings.duvMv then
        s.onProt fun p => { p with duv := some (DuvTimer.start s.monNow p.settings.duvMs) }
      else s
    | some _ =>
      if atLeast s.lowerCell (p.settings.duvMv + 100) then (s.onProt fun p => { p with duv := none }).endWarning else s

/-- The cells' conditions at a CELL1 or CELL2 result: COV, then DUV (R124, log 7). -/
def State.evalCells (s : State) : State := s.evalCov.evalDuv

/-! ### Commands: the comparator (R125) -/

/-- The SC count at a rise of the signal, while the discharge switch is on (R125). -/
def Protection.signalRise (p : Protection) : Protection :=
  if p.switches.discharge then { p with scLeft := some p.settings.scUs } else p

/-- The SC count at a fall of the signal (R125). -/
def Protection.signalFall (p : Protection) : Protection := { p with scLeft := none }

/-- The SC count when the comparator judges its signal against a new threshold: a fall stops it, a rise starts it, and
otherwise it runs on (R134). -/
def Protection.signalJudged (p : Protection) (old new : Bool) : Protection :=
  if old = new then p else if new then p.signalRise else p.signalFall

/-- SC_COMPARATOR_RISE (R125). -/
def execScComparatorRise (s : State) : Host.Outcome State Fault Refusal :=
  .next ((s.onProt Protection.signalRise).onPins fun p => { p with scSignal := true })

/-- SC_COMPARATOR_FALL (R125). -/
def execScComparatorFall (s : State) : Host.Outcome State Fault Refusal :=
  .next ((s.onProt Protection.signalFall).onPins fun p => { p with scSignal := false })

/-- SC_DELAY_EXPIRY: the count is spent with the signal standing (R125, R130); the trip carries the SC threshold
(R135). -/
def execScDelayExpiry (s : State) : Host.Outcome State Fault Refusal :=
  .next (s.expiry s.mon.prot.scLeft fun s => s.dischargeTrip .sc (some s.mon.prot.settings.scMa))

/-! ### Commands: condition timers (R126 to R128) -/

/-- DOC_TIMER_EXPIRY (R124, R126, R130). The trip is taken at the expiry without a further result, also with a delay shorter
than the result period, by the model's choice (log 34). -/
def execDocTimerExpiry (s : State) : Host.Outcome State Fault Refusal :=
  .next (s.expiry (s.mon.prot.doc.map s.monLeft) fun s => s.dischargeTrip .doc (s.latest .current))

/-- COC_TIMER_EXPIRY (R124, R126, R130), at the expiry as DOC's (log 34). -/
def execCocTimerExpiry (s : State) : Host.Outcome State Fault Refusal :=
  .next (s.expiry (s.mon.prot.coc.map s.monLeft) State.chargeTrip)

/-- COV_TIMER_EXPIRY: blocking begins, and the charger is told (R127, R135, R145). PROTECTION TRIP is offered before the
CHARGER STATE of the hold that begins, by the model's choice (log 7). -/
def execCovTimerExpiry (s : State) : Host.Outcome State Fault Refusal :=
  .next (s.expiry (s.mon.prot.cov.map s.monLeft) fun s =>
    let s := (s.onProt fun p => { p with covBlocking := true, cov := none }).settleSwitches
    (s.notify (.protectionTrip .cov .chargeBlocked s.higherCell s.monNow false 0)).beginHold .cov)

/-- DUV_WARNING_EXPIRY: the early warning begins, and the energy monitor is told (R128). -/
def execDuvWarningExpiry (s : State) : Host.Outcome State Fault Refusal :=
  .next (s.expiry ((s.mon.prot.duv.bind DuvTimer.warning).map s.monLeft) fun s =>
    (s.onProt fun p =>
      { p with earlyWarning := true, duv := p.duv.map fun t => { t with warning := none } }).settleEnergy .warningBegun)

/-- DUV_CUT_EXPIRY, in the order of R128: the warning ends, the cut latches, the switches follow, the charge count is set
to empty, and the trip is noticed. -/
def execDuvCutExpiry (s : State) : Host.Outcome State Fault Refusal :=
  .next (s.expiry (s.mon.prot.duv.map fun t => s.monLeft t.cut) fun s =>
    let s := s.endWarning.onProt fun p => { p with duvCut := true, duv := none }
    let s := s.settleSwitches.calibrate 0
    s.notify (.protectionTrip .duv .duvCut s.lowerCell s.monNow false 0))

/-! ### Commands: hold-offs (R130, R131) -/

/-- DISCHARGE_HOLDOFF_EXPIRY (R130, R131). -/
def execDischargeHoldoffExpiry (s : State) : Host.Outcome State Fault Refusal :=
  .next (s.expiry (s.mon.prot.dischargeHoldoff.map s.monLeft) fun s =>
    (s.onProt fun p =>
      { p with
        dischargeHoldoff := none
        dischargeTrip := false
        dischargeRequest := p.dischargeRequest || (p.recoveryArmed && !p.lockout) }).settleSwitches.noticeClear
          .dischargeTrip .holdoffEnd)

/-- CHARGE_HOLDOFF_EXPIRY (R130). -/
def execChargeHoldoffExpiry (s : State) : Host.Outcome State Fault Refusal :=
  .next (s.expiry (s.mon.prot.chargeHoldoff.map s.monLeft) fun s =>
    (s.onProt fun p => { p with chargeHoldoff := none, chargeTrip := false }).settleSwitches.noticeClear
      .chargeTrip .holdoffEnd)

/-! ### Commands: requests (R132 to R134) -/

/-- DISCHARGE_SWITCH (R132): the reply follows the effect, and is lost with a rail that OFF removed. -/
def execDischargeSwitch (tag : Byte) (on : Option Bool) (s : State) : Host.Outcome State Fault Refusal :=
  .next (s.request tag .control fun s =>
    match on with
    | none => s.answer tag .badArg
    | some false =>
      (s.onProt fun p => { p with dischargeRequest := false, recoveryArmed := false }).settleSwitches.answer tag .ok
    | some true =>
      if s.mon.prot.duvCut || s.mon.prot.lockout then s.answer tag .badState
      else if s.mon.prot.dischargeHoldoff.isSome then s.answer tag .holdoff
      else (s.onProt fun p => { p with dischargeRequest := true }).settleSwitches.answer tag .ok)

/-- The mode and the settings a BALANCE SET leaves; AUTO keeps the settings held (R133, log 17). -/
def Protection.setBalance (p : Protection) (mode : BalanceMode) (settings : Option (Bool × Bool)) : Protection :=
  { p with
    balanceMode := mode
    manual1 := (settings.getD (p.manual1, p.manual2)).1
    manual2 := (settings.getD (p.manual1, p.manual2)).2 }

/-- BALANCE_SET: the reply carries the mode, the settings held and the outputs as recomputed (R133). -/
def execBalanceSet (tag : Byte) (mode : BalanceArg) (s : State) : Host.Outcome State Fault Refusal :=
  .next (s.request tag .control fun s =>
    match checkBalance mode with
    | none => s.answer tag .badArg
    | some (m, settings) =>
      let s := (s.onProt fun p => p.setBalance m settings).settleSwitches
      let p := s.mon.prot
      s.reply tag .ok (.balance p.balanceMode p.manual1 p.manual2 p.switches.balance1 p.switches.balance2))

/-- PROTECT_SETUP: the transfer begins, and the reply is owed until its end (R134, log 20). -/
def execProtectSetup (tag : Byte) (args : ProtectArgs) (s : State) : Host.Outcome State Fault Refusal :=
  .next (s.request tag .control fun s =>
    match checkProtect args with
    | none => s.answer tag .badArg
    | some settings =>
      if s.mon.prot.transfer.isSome then s.answer tag .busy
      else
        (s.onProt fun p => { p with transfer := some ⟨settings, later s.monNow Config.transferMs⟩ }).onLink
          fun l => { l with protectTag := some tag })

/-- The reply owed to a PROTECT SETUP, unless a path reset has lost the request (R134). -/
def State.answerProtect (s : State) : State :=
  match s.path.link.protectTag with
  | none => s
  | some tag => (s.onLink fun l => { l with protectTag := none }).answer tag .ok

/-- PROTECT_TRANSFER_EXPIRY: the carried settings become active together, the comparator judges its signal against the
new threshold, and the reply is offered (R134, log 27). -/
def execProtectTransferExpiry (signal : Bool) (s : State) : Host.Outcome State Fault Refusal :=
  .next (s.expiry (s.mon.prot.transfer.map fun t => s.monLeft t.deadline) fun s =>
    ((s.onProt fun p =>
      { p with
        settings := (p.transfer.map Transfer.settings).getD p.settings
        transfer := none }.signalJudged s.pins.scSignal signal).onPins fun p => { p with scSignal := signal }).answerProtect)

end Sys2Proof.Machine
end

