-- ==== Sys2Proof/Machine/Convert.lean ====
section
/-! DEFINITION. The converter unit (07): results, histories, the scan, the coulomb counter; and its commands. -/

namespace Sys2Proof.Machine

/-! ### Histories (R117) -/

/-- A result enters the front of its channel's history, with the monitor time; of five the oldest is dropped (R117). -/
def State.enter (s : State) (c : Channel) (value : Int) : State :=
  s.onConv fun v =>
    { v with histories := v.histories.set c ((⟨value, v.time⟩ :: v.histories.get c).take 4) }

/-- The range a channel's results are held in (R111, 07 section 7.3). -/
def channelRange (c : Channel) : Int × Int :=
  match c with
  | .current => (-32767, 32767)
  | .cell1 => (0, 5000)
  | .cell2 => (0, 5000)
  | .input => (0, 25000)
  | .battTemp => (-400, 1250)
  | .dieTemp => (-400, 1500)
  | .pack => (0, 10000)

/-- A result held at the ends of its channel's range. -/
def holdResult (c : Channel) (value : Int) : Int := clamp value (channelRange c).1 (channelRange c).2

/-! ### The coulomb counter (R120) -/

/-- The result period in µs of a decimation R: R × 15.625 µs (07 section 7.2). -/
def periodUs (rate : Nat) : Nat := rate * 125 / 8

/-- A current result counted (R120). -/
def Converter.count (c : Converter) (milliamps : Int) : Converter :=
  let a := c.remainder + milliamps * periodUs c.rate
  let dQ := a.fdiv Config.chargeUnit
  { c with charge := clamp (c.charge + dQ) 0 (c.capacity * 1000), remainder := a - dQ * Config.chargeUnit }

/-- A current result counted, with a change of the SoC handed to the energy monitor (R120, R121). -/
def State.countCharge (s : State) (milliamps : Int) : State :=
  let new := s.onConv fun c => c.count milliamps
  if new.mon.conv.soc ≠ s.mon.conv.soc then new.settleEnergy .soc else new

/-! ### The current converter (R111 to R113) -/

/-- A result that is not discarded: history, charge count, protection unit, charger (R111). -/
def State.takeCurrent (s : State) (milliamps : Int) : State :=
  let s := (s.enter .current milliamps).countCharge milliamps
  let s := s.onProt fun p => p.evalCurrent milliamps s.monNow
  s.chargerCurrent milliamps

/-- The converter acts on a pending rate at the end of a result period (R113). -/
def Converter.takeRate (c : Converter) : Converter :=
  match c.pendingRate with
  | none => c
  | some r => if r = c.rate then { c with pendingRate := none } else { c with rate := r, settling := 2, pendingRate := none }

/-- CURRENT_RESULT: the end of a result period with the mean current over it (R111, R112, R113). -/
def execCurrentResult (milliamps : Int) (s : State) : Host.Outcome State Fault Refusal :=
  .next ((if 0 < s.mon.conv.settling then s.onConv fun c => { c with settling := c.settling - 1 }
    else s.takeCurrent (holdResult .current milliamps)).onConv Converter.takeRate)

/-! ### The voltage converter (R114, R116, R119) -/

/-- A result handed to the consumers of its channel (R119). -/
def State.handOn (s : State) (c : Channel) (value : Int) : State :=
  match c with
  | .cell1 => (s.evalCells.chargerCell).settleEnergy .cell
  | .cell2 => (s.evalCells.chargerCell).settleEnergy .cell
  | .input => s.chargerInput value
  | .battTemp => s.chargerBattTemp value
  | .dieTemp => s.chargerDieTemp value
  | .pack => s
  | .current => s

/-- A visit of entry `index` of the scan list begins (R114). -/
def Converter.visit (c : Converter) (index : Nat) : Converter :=
  { c with scanIndex := index, scanDiscards := ((c.scanList[index]?).map ScanEntry.discards).getD 0 }

/-- The channel appears in the old list and not in the new one (R116). -/
def dropped (old new : List ScanEntry) (c : Channel) : Bool := scansChannel old c && !scansChannel new c

/-- The histories with those of the dropped channels emptied (R116). -/
def Histories.drop (h : Histories) (old new : List ScanEntry) : Histories where
  current := h.current
  cell1 := if dropped old new .cell1 then [] else h.cell1
  cell2 := if dropped old new .cell2 then [] else h.cell2
  input := if dropped old new .input then [] else h.input
  battTemp := if dropped old new .battTemp then [] else h.battTemp
  dieTemp := if dropped old new .dieTemp then [] else h.dieTemp
  pack := if dropped old new .pack then [] else h.pack

/-- The end of a visit: a pending scan list takes effect at entry 0, or the next entry is visited (R114, R116). With
DIE_TEMP dropped, its unknown temperature lies below the thresholds of the charger (R116, R118, R144). -/
def State.endVisit (s : State) : State :=
  match s.mon.conv.pendingScan with
  | none =>
    s.onConv fun c => c.visit (if c.scanIndex + 1 < c.scanList.length then c.scanIndex + 1 else 0)
  | some list =>
    let old := s.mon.conv.scanList
    let s := s.onConv fun c =>
      { c with scanList := list, pendingScan := none, histories := c.histories.drop old list }.visit 0
    if dropped old list .dieTemp then s.setDieHot false else s

/-- VOLTAGE_RESULT: the end of a result period of the entry in progress, discarded or taken (R114, R116, R119). -/
def execVoltageResult (value : Int) (s : State) : Host.Outcome State Fault Refusal :=
  .next (
    if 0 < s.mon.conv.scanDiscards then s.onConv fun c => { c with scanDiscards := c.scanDiscards - 1 }
    else
      match s.mon.conv.scanList[s.mon.conv.scanIndex]? with
      | none => s
      | some e => ((s.enter e.channel (holdResult e.channel value)).handOn e.channel (holdResult e.channel value)).endVisit)

/-! ### Requests -/

/-- CURRENT_RATE (R113). -/
def execCurrentRate (tag : Byte) (rate : Nat) (s : State) : Host.Outcome State Fault Refusal :=
  .next (s.request tag .control fun s =>
    if checkRate rate then (s.onConv fun c => { c with pendingRate := some rate }).answer tag .ok
    else s.answer tag .badArg)

/-- SCAN_LIST (R115). -/
def execScanList (tag : Byte) (entries : List ScanArg) (s : State) : Host.Outcome State Fault Refusal :=
  .next (s.request tag .control fun s =>
    match checkScanList entries with
    | none => s.answer tag .badArg
    | some list => (s.onConv fun c => { c with pendingScan := some list }).answer tag .ok)

/-- COUNTER_SET: capacity, levels, seed and seeded flag as one event, with the SoC, the flag and the levels handed to the
energy monitor (R122, log 22). -/
def execCounterSet (tag : Byte) (args : CounterArgs) (s : State) : Host.Outcome State Fault Refusal :=
  .next (s.request tag .control fun s =>
    if checkCounter args then
      let s := s.onConv fun c =>
        { c with
          capacity := args.capacity, reserve := args.reserve, lowCell := args.lowCell
          charge := args.seed, remainder := 0, seeded := true }
      ((s.onEnergy fun e => { e with reserve := args.reserve, lowCell := args.lowCell }).settleEnergy .levels).answer tag .ok
    else s.answer tag .badArg)

end Sys2Proof.Machine
end

