-- ==== Sys2Proof/Machine/Link.lean ====
section
/-! DEFINITION. The link interface (11): packets that reach no owner, and the part-level requests; and its commands. The
upstream lane is in Lane.lean. -/

namespace Sys2Proof.Machine

/-! ### Snapshots (R166, R167) -/

/-- The fifteen counters (R166). -/
def State.counters (s : State) : StatusCounters where
  unsetFrames := s.path.window.unsetFrames
  orphanLines := s.path.window.orphanLines
  shortFrames := s.path.window.shortFrames
  stalls := s.path.window.stalls
  overruns := s.path.intake.overruns
  gaps := s.path.intake.gaps
  silentEntries := s.path.intake.silentEntries
  transactions := s.path.card.transactions
  countedRetries := s.path.card.countedRetries
  uncountedRetries := s.path.card.uncountedRetries
  failedTransactions := s.path.card.failedTransactions
  headerErrors := s.path.link.headerErrors
  payloadErrors := s.path.link.payloadErrors
  requestsLost := s.path.link.requestsLost
  noticesLost := s.path.link.noticesLost

/-- Milliseconds left of a hold-off, 0 when none runs (R167). -/
def State.holdoffLeft (s : State) (deadline : Option Time) : Nat := (deadline.map s.monLeftMs).getD 0

/-- The snapshot of the monitor domain (R167). -/
def State.energySnapshot (s : State) : EnergySnapshot where
  current := s.mon.conv.histories.current.head?
  cell1 := s.mon.conv.histories.cell1.head?
  cell2 := s.mon.conv.histories.cell2.head?
  input := s.mon.conv.histories.input.head?
  battTemp := s.mon.conv.histories.battTemp.head?
  dieTemp := s.mon.conv.histories.dieTemp.head?
  pack := s.mon.conv.histories.pack.head?
  charge := s.mon.conv.charge
  soc := s.mon.conv.soc
  seeded := s.mon.conv.seeded
  charger := s.mon.chg.state
  causes := s.mon.chg.causes
  setpoint := s.mon.chg.setpoint
  switches := s.mon.prot.switches
  dischargeRequest := s.mon.prot.dischargeRequest
  balanceMode := s.mon.prot.balanceMode
  dischargeTrip := s.mon.prot.dischargeTrip
  chargeTrip := s.mon.prot.chargeTrip
  lockout := s.mon.prot.lockout
  duvCut := s.mon.prot.duvCut
  covBlocking := s.mon.prot.covBlocking
  earlyWarning := s.mon.prot.earlyWarning
  dischargeLeft := s.holdoffLeft s.mon.prot.dischargeHoldoff
  chargeLeft := s.holdoffLeft s.mon.prot.chargeHoldoff
  recentTrips := s.mon.prot.recentTrips
  energy := s.mon.energy.state
  time := s.monNow

/-! ### Commands -/

/-- HEADER_ERROR (R159). -/
def execHeaderError (s : State) : Host.Outcome State Fault Refusal := .next (s.whenUp State.headerError)

/-- The request kind code names a request kind (12 section 12.1). -/
def knownCode (code : Option Byte) : Bool :=
  match code with
  | none => false
  | some c => decide (1 ≤ c.toNat ∧ c.toNat ≤ 26)

/-- UNKNOWN_REQUEST: a CONTROL payload without a request kind code, with one that is not recognised, or with a wrong
argument length for it (R160, R169, log 23). -/
def execUnknownRequest (tag : Byte) (code : Option Byte) (s : State) : Host.Outcome State Fault Refusal :=
  .next (s.request tag .control fun s => s.answer tag (if knownCode code then .badArg else .unknown))

/-- IDENTIFY (R166). -/
def execIdentify (tag : Byte) (s : State) : Host.Outcome State Fault Refusal :=
  .next (s.request tag .control fun s =>
    s.reply tag .ok (.identity Config.familyCode Config.partNumber Config.revision))

/-- STATUS_READ (R166). -/
def execStatusRead (tag : Byte) (s : State) : Host.Outcome State Fault Refusal :=
  .next (s.request tag .control fun s => s.reply tag .ok (.counters s.counters))

/-- ENERGY_READ (R167). -/
def execEnergyRead (tag : Byte) (s : State) : Host.Outcome State Fault Refusal :=
  .next (s.request tag .control fun s => s.reply tag .ok (.energy s.energySnapshot))

/-- CONTROL_PAYLOAD_FAILURE (R160). -/
def execControlPayloadFailure (tag : Byte) (s : State) : Host.Outcome State Fault Refusal :=
  .next (s.request tag .control fun s => s.countPayloadError.answer tag .badCheck)

end Sys2Proof.Machine
end

