-- ==== Sys2Proof/Machine/Dispatch.lean ====
section
/-! DEFINITION. One arm per command: its meaning. -/

namespace Sys2Proof.Machine

def exec (i : Instr) (s : State) : Host.Outcome State Fault Refusal :=
  match i with
  | .powerOnReset => Sys2Proof.Machine.execPowerOnReset s
  | .pathResetEnd => Sys2Proof.Machine.execPathResetEnd s
  | .dataReadyEdge => Sys2Proof.Machine.execDataReadyEdge s
  | .sampleReadComplete bytes => Sys2Proof.Machine.execSampleReadComplete bytes s
  | .sampleIntegration => Sys2Proof.Machine.execSampleIntegration s
  | .imuSilent => Sys2Proof.Machine.execImuSilent s
  | .shockHoldExpiry => Sys2Proof.Machine.execShockHoldExpiry s
  | .motionSetup tag args => Sys2Proof.Machine.execMotionSetup tag args s
  | .imuWrite tag address data => Sys2Proof.Machine.execImuWrite tag address data s
  | .imuWriteDone => Sys2Proof.Machine.execImuWriteDone s
  | .imuRead tag address count => Sys2Proof.Machine.execImuRead tag address count s
  | .imuReadDone bytes => Sys2Proof.Machine.execImuReadDone bytes s
  | .lensTable tag axis spacing entries => Sys2Proof.Machine.execLensTable tag axis spacing entries s
  | .steadyMode tag mode => Sys2Proof.Machine.execSteadyMode tag mode s
  | .recenter tag => Sys2Proof.Machine.execRecenter tag s
  | .loadGeometry tag args => Sys2Proof.Machine.execLoadGeometry tag args s
  | .frameStartUnit => Sys2Proof.Machine.execFrameStartUnit s
  | .lineUnit pixels => Sys2Proof.Machine.execLineUnit pixels s
  | .frameEndUnit => Sys2Proof.Machine.execFrameEndUnit s
  | .sensorStall => Sys2Proof.Machine.execSensorStall s
  | .clipArm tag slot clip track lowWater => Sys2Proof.Machine.execClipArm tag slot clip track lowWater s
  | .extentAdd tag slot stream start length => Sys2Proof.Machine.execExtentAdd tag slot stream start length s
  | .clipStart tag slot => Sys2Proof.Machine.execClipStart tag slot s
  | .clipStop tag slot last => Sys2Proof.Machine.execClipStop tag slot last s
  | .clipDrop tag slot => Sys2Proof.Machine.execClipDrop tag slot s
  | .clipData slot n payload => Sys2Proof.Machine.execClipData slot n payload s
  | .plainWrite start n payload => Sys2Proof.Machine.execPlainWrite start n payload s
  | .cardDetectRise => Sys2Proof.Machine.execCardDetectRise s
  | .cardDetectFall => Sys2Proof.Machine.execCardDetectFall s
  | .cardDebounceExpiry => Sys2Proof.Machine.execCardDebounceExpiry s
  | .cardStartResponse response => Sys2Proof.Machine.execCardStartResponse response s
  | .startDeadlineExpiry => Sys2Proof.Machine.execStartDeadlineExpiry s
  | .cardRescan tag => Sys2Proof.Machine.execCardRescan tag s
  | .cardSetup tag retryLimit writeTimeout readWait => Sys2Proof.Machine.execCardSetup tag retryLimit writeTimeout readWait s
  | .transactionBegin => Sys2Proof.Machine.execTransactionBegin s
  | .cardCommandResponse good => Sys2Proof.Machine.execCardCommandResponse good s
  | .writeBlockAck good => Sys2Proof.Machine.execWriteBlockAck good s
  | .busyEnd => Sys2Proof.Machine.execBusyEnd s
  | .busyTimeout => Sys2Proof.Machine.execBusyTimeout s
  | .cardResponseTimeout => Sys2Proof.Machine.execCardResponseTimeout s
  | .readBlockReceived block => Sys2Proof.Machine.execReadBlockReceived block s
  | .retryBegin => Sys2Proof.Machine.execRetryBegin s
  | .cardRead tag payload => Sys2Proof.Machine.execCardRead tag payload s
  | .readWaitTimeout => Sys2Proof.Machine.execReadWaitTimeout s
  | .bufferHandback => Sys2Proof.Machine.execBufferHandback s
  | .closingPad slot => Sys2Proof.Machine.execClosingPad slot s
  | .summaryBuild slot => Sys2Proof.Machine.execSummaryBuild slot s
  | .currentResult milliamps => Sys2Proof.Machine.execCurrentResult milliamps s
  | .voltageResult value => Sys2Proof.Machine.execVoltageResult value s
  | .currentRate tag rate => Sys2Proof.Machine.execCurrentRate tag rate s
  | .scanList tag entries => Sys2Proof.Machine.execScanList tag entries s
  | .counterSet tag args => Sys2Proof.Machine.execCounterSet tag args s
  | .scComparatorRise => Sys2Proof.Machine.execScComparatorRise s
  | .scComparatorFall => Sys2Proof.Machine.execScComparatorFall s
  | .scDelayExpiry => Sys2Proof.Machine.execScDelayExpiry s
  | .docTimerExpiry => Sys2Proof.Machine.execDocTimerExpiry s
  | .cocTimerExpiry => Sys2Proof.Machine.execCocTimerExpiry s
  | .covTimerExpiry => Sys2Proof.Machine.execCovTimerExpiry s
  | .duvWarningExpiry => Sys2Proof.Machine.execDuvWarningExpiry s
  | .duvCutExpiry => Sys2Proof.Machine.execDuvCutExpiry s
  | .dischargeHoldoffExpiry => Sys2Proof.Machine.execDischargeHoldoffExpiry s
  | .chargeHoldoffExpiry => Sys2Proof.Machine.execChargeHoldoffExpiry s
  | .dischargeSwitch tag on => Sys2Proof.Machine.execDischargeSwitch tag on s
  | .balanceSet tag mode => Sys2Proof.Machine.execBalanceSet tag mode s
  | .protectSetup tag args => Sys2Proof.Machine.execProtectSetup tag args s
  | .protectTransferExpiry signal => Sys2Proof.Machine.execProtectTransferExpiry signal s
  | .chargeInhibit tag on => Sys2Proof.Machine.execChargeInhibit tag on s
  | .chargeSetup tag args => Sys2Proof.Machine.execChargeSetup tag args s
  | .qualifyDeadlineExpiry => Sys2Proof.Machine.execQualifyDeadlineExpiry s
  | .prechargeTimerExpiry => Sys2Proof.Machine.execPrechargeTimerExpiry s
  | .fastTimerExpiry => Sys2Proof.Machine.execFastTimerExpiry s
  | .zeroDeadlineExpiry => Sys2Proof.Machine.execZeroDeadlineExpiry s
  | .weakClearExpiry => Sys2Proof.Machine.execWeakClearExpiry s
  | .pathReset tag force => Sys2Proof.Machine.execPathReset tag force s
  | .headerError => Sys2Proof.Machine.execHeaderError s
  | .unknownRequest tag code => Sys2Proof.Machine.execUnknownRequest tag code s
  | .upstreamUnitSent => Sys2Proof.Machine.execUpstreamUnitSent s
  | .identify tag => Sys2Proof.Machine.execIdentify tag s
  | .statusRead tag => Sys2Proof.Machine.execStatusRead tag s
  | .energyRead tag => Sys2Proof.Machine.execEnergyRead tag s
  | .controlPayloadFailure tag => Sys2Proof.Machine.execControlPayloadFailure tag s

end Sys2Proof.Machine
end

