-- ==== Sys2Proof/Machine/Due.lean ====
section
/-! DEFINITION. What the part does of itself when nothing waits: follow-on events that are due, and deadlines that the
time has reached (log 2). -/

namespace Sys2Proof.Machine

/-- A command with the condition under which it is due. -/
def dueWhen (c : Instr) (due : Bool) : Option Instr := if due then some c else none

/-- The follow-on events that are rows of the table, in the order log 2 gives them: handbacks, integration, closing,
the arbiter over the card. -/
def State.followOns (s : State) : List Instr :=
  if s.pathUp then
    ([dueWhen .bufferHandback !s.path.card.handbacks.isEmpty,
        dueWhen .sampleIntegration s.path.intake.integrationDue] ++
      (slotIndices.map fun i => dueWhen (.closingPad i) (s.slot i).padDue) ++
      (slotIndices.map fun i => dueWhen (.summaryBuild i) (s.summaryDue i && !(s.slot i).trackList.isEmpty)) ++
      [dueWhen .retryBegin s.retryDue.isSome, dueWhen .transactionBegin s.transactionDue.isSome]).filterMap id
  else []

/-- The deadlines that the time has reached, in the order of State.timers. -/
def State.expired (s : State) : List Instr := (s.timers.filter fun t => decide (t.2 = some 0)).map Prod.fst

/-- What is due in the part itself: a follow-on event, or the expiry of a deadline reached. -/
def State.due (s : State) : Option Instr := (s.followOns ++ s.expired).head?

end Sys2Proof.Machine
end

