-- ==== Sys2Proof/Safety.lean ====
section
/-! DEFINITION. What a safe run is, what the statements share, and the laws of the spec that hold of the part at every
moment, as predicates on State. -/

namespace Sys2Proof.Machine

/-! ### Runs -/

/-- A step that goes on: the part neither faults nor is refused. -/
def Runs (s : State) : Prop := ∃ t, step s = .next t

/-- A predicate that every command keeps, whatever waits behind it, and so every step. -/
def Kept (law : State → Prop) : Prop :=
  (∀ (c : Instr) s t, law s → exec c s = .next t → law t) ∧ ∀ s t, law s → step s = .next t → law t

/-! ### Requests -/

/-- A request with a good header is taken: the path domain is up, and fewer than 8 requests are outstanding (R161). -/
def State.Takes (s : State) : Prop := s.pathUp = true ∧ s.path.link.outstanding < 8

/-- A reply at the tail of the reply queue, with the arbiter's choice where the lane is free (R162, R165). -/
def State.answered (s : State) (tag : Byte) (code : ReplyCode) (data : ReplyData) : State :=
  ({ s with path.link.replies := s.path.link.replies ++ [⟨tag, code, data⟩] } : State).chooseUnit

/-- A request taken and answered at once: one more outstanding, and one more reply (R161, R162, R165). -/
def State.replied (s : State) (tag : Byte) (code : ReplyCode) (data : ReplyData) : State :=
  ({ s with path.link.outstanding := s.path.link.outstanding + 1 } : State).answered tag code data

/-- A request taken whose reply is owed. -/
def State.owing (s : State) : State := { s with path.link.outstanding := s.path.link.outstanding + 1 }

/-- A notice at the tail of the notice queue, with the arbiter's choice where the lane is free (R163, R165). -/
def State.noticed (s : State) (n : Notice) : State :=
  ({ s with path.link.notices := s.path.link.notices ++ [n] } : State).chooseUnit

/-- The notices that have not left the part: the one being sent, then those of the queue (R163). -/
def State.noticesHeld (s : State) : List Notice :=
  (match s.path.link.lane with
    | some (.notice n _) => [n]
    | _ => []) ++ s.path.link.notices

/-- A CREDIT cell with the released total as it stands is pending, or is being sent (R164, R165). -/
def State.CreditDue (s : State) : Prop :=
  s.path.link.creditPending = true ∨ s.path.link.lane = some (.credit s.path.link.released)

/-- An expiry command finds its deadline, some microseconds ahead, and no other set deadline before it (log 3). -/
def State.Arrives (s : State) (left : Nat) : Prop := s.nothingEarlier left = true

/-! ### The laws of the monitor domain -/

/-- The five outputs are what R129 and R133 give; each hold-off runs exactly while its trip latch is set (R130); the
discharge request is OFF throughout a lockout (R131); MANUAL never holds both settings on (R133). -/
def State.ProtectionLaw (s : State) : Prop :=
  s.mon.prot.switches = s.mon.prot.computeSwitches s.mon.chg.state s.mon.chg.demand ∧
  s.mon.prot.dischargeHoldoff.isSome = s.mon.prot.dischargeTrip ∧
  s.mon.prot.chargeHoldoff.isSome = s.mon.prot.chargeTrip ∧
  (s.mon.prot.lockout = true → s.mon.prot.dischargeRequest = false) ∧
  (s.mon.prot.manual1 && s.mon.prot.manual2) = false

/-- The rail is UP while the discharge switch output is on or input is present, and DOWN while both are off (R153); the
setpoint is min(I_cc_eff, I_floor) in CC and 0 elsewhere (R147); a path domain that is down or in reset holds its reset
values (R153, R154), and a path reset runs only under a rail that is UP (R153, R156); and the model's part of a
millisecond is less than one (log 2). -/
def State.PowerLaw (s : State) : Prop :=
  s.mon.energy.railUp = (s.mon.prot.switches.discharge || s.mon.chg.inputPresent) ∧
  s.mon.chg.setpoint = (if s.mon.chg.state = .cc then min s.mon.chg.iccEff s.mon.chg.iFloor else 0) ∧
  (s.pathUp = false → s.path = Path.afterReset) ∧
  (s.mon.energy.resetEnd.isSome = true → s.mon.energy.railUp = true) ∧ s.mon.conv.subMs < 1000

/-! ### The laws of the path link and the write buffer -/

/-- Requests that the inertial port owes a reply (R13, R14). -/
def Port.owed (p : Port) : Nat :=
  match p with
  | .passWrite .. => 1
  | .passRead .. => 1
  | _ => 0

/-- The read that a READ transaction or the read buffer holds is the oldest one, and it has begun (R84, R93, R94). -/
def Card.ReadLaw (c : Card) : Prop :=
  (∀ t, c.transaction = some t → t.work = .read → (∃ b, c.readBuffer = .filling b) ∧
    ∃ r rest, c.reads = r :: rest ∧ r.wait = none) ∧
  (∀ tag b n, c.readBuffer = .sending tag b n → ∃ r rest, c.reads = r :: rest ∧ r.wait = none ∧ r.tag = tag)

/-- Each request outstanding is a queued reply, an outstanding read, a transfer on the inertial port or a PROTECT SETUP in
transfer (R161, R162), with at most 8 outstanding, 3 reads (R91) and 16 notices (R163); a path domain that is down or in
reset owes no PROTECT SETUP a reply (R134). -/
def State.RequestLaw (s : State) : Prop :=
  s.path.link.outstanding =
    s.path.link.replies.length + s.path.card.reads.length + s.path.intake.port.owed +
      (if s.path.link.protectTag.isSome then 1 else 0) ∧
  s.path.link.outstanding ≤ 8 ∧ s.path.card.reads.length ≤ 3 ∧ s.path.link.notices.length ≤ 16 ∧
  (s.path.link.protectTag.isSome = true → s.pathUp = true ∧ s.mon.prot.transfer.isSome = true) ∧ s.path.card.ReadLaw

/-- Blocks received minus blocks released, modulo 65536, are the blocks held, never more than 128, in at most 56 entries
from packets (R74, R76). -/
def State.BufferLaw (s : State) : Prop :=
  s.path.link.received - s.path.link.released = BitVec.ofNat 16 (heldBlocks s.path.card.queue) ∧
  heldBlocks s.path.card.queue ≤ 128 ∧ (s.path.card.queue.filter Entry.fromPacket).length ≤ 56

/-! ### The laws of steadying and of the frame window -/

/-- A shake within its limit and a carry within its range (R18, R20, R22). -/
def axisBounded (shake carry : Int) (limit : Nat) : Prop :=
  -(limit : Int) ≤ shake ∧ shake ≤ limit ∧ 0 ≤ carry ∧ carry ≤ 15999999

/-- Shake and carry of the three axes under the active limits (R16, R18, R20, R22). -/
def State.ShakeLaw (s : State) : Prop :=
  axisBounded s.path.engine.shake.yaw s.path.engine.carry.yaw s.path.intake.active.limit.yaw ∧
  axisBounded s.path.engine.shake.pitch s.path.engine.carry.pitch s.path.intake.active.limit.pitch ∧
  axisBounded s.path.engine.shake.roll s.path.engine.carry.roll s.path.intake.active.limit.roll

/-- The origin and every band column of the open frame lie inside the sensor (R26), and the frame stream holds at most 4
lines (R51). -/
def State.WindowLaw (s : State) : Prop :=
  (∀ f, s.path.window.frame = some f →
    f.x0 ≤ f.geometry.sensorW - f.geometry.w ∧ f.y0 ≤ f.geometry.sensorH - f.geometry.h ∧
    ∀ c ∈ f.bands.toList, c ≤ f.geometry.sensorW - f.geometry.w) ∧
  linesHeld s.path.link.stream ≤ 4

/-! ### The laws of the clip slots -/

/-- The extents of every slot that is not FREE, VIDEO and TRACK. -/
def State.heldExtents (s : State) : List Extent :=
  slotIndices.flatMap fun i => if (s.slot i).state = .free then [] else (s.slot i).video ++ (s.slot i).trackList

/-- No card block lies in two extents of slots that are not FREE, and no PLAIN entry of the write queue touches one
(R59). -/
def State.ExtentLaw (s : State) : Prop :=
  s.heldExtents.Pairwise (fun a b => overlaps a.start a.length b.start b.length = false) ∧
  ∀ e ∈ s.path.card.queue, e.owner = .plain →
    ∀ x ∈ s.heldExtents, overlaps e.start e.count x.start x.length = false

/-- A slot has a closing step only in CLOSING, and with track on it is past step 1 only with every owed record taken, its
next track frame equal to its stop frame (R102, R103). -/
def Slot.ClosingLaw (s : Slot) : Prop :=
  (s.state ≠ .closing → s.step = .none) ∧
  (s.track = true → s.step = .pad ∨ s.step = .drain ∨ s.step = .sealing → s.nextTrack = s.stopFrame)

/-- The closing law of each slot. -/
def State.ClosingLaw (s : State) : Prop := ∀ i, (s.slot i).ClosingLaw

/-- A count written, a count lost and the records in buffers add up to a difference of frame numbers, unless one of the two
counts has saturated, which a clip shorter than 2^31 frames cannot reach (R109). -/
def addsUp (written lost held : Nat) (frames : BitVec 32) : Prop :=
  written = 4294967295 ∨ lost = 4294967295 ∨ BitVec.ofNat 32 (written + lost + held) = frames

/-- The real records that a track buffer holds, apart from a summary (R104, R109). -/
def TrackBuffer.real (t : TrackBuffer) : Nat :=
  match t with
  | .filling records => realRecords records
  | .queuedTrack records => realRecords records
  | _ => 0

/-- The real records that a slot's two buffers hold. -/
def Slot.heldRecords (s : Slot) : Nat := s.buffers[0].real + s.buffers[1].real

/-- The accounting of R109: an ARMED slot has counted no record and holds none; with track on, the records written, lost and
held of a RECORDING or CLOSING slot are its next track frame less its start frame; and those of a built summary are its
stop frame less its start frame. -/
def Slot.RecordLaw (s : Slot) : Prop :=
  (s.state = .armed → s.recordsWritten = 0 ∧ s.recordsLost = 0 ∧ ∀ b : Fin 2, s.buffers[b] = .free) ∧
  (s.state = .recording ∨ s.state = .closing → s.track = true → ∃ start next,
    s.startFrame = some start ∧ s.nextTrack = some next ∧
      addsUp s.recordsWritten s.recordsLost s.heldRecords (next - start)) ∧
  ∀ (b : Fin 2) x, s.buffers[b] = .queuedSummary x → x.track = true → ∃ start stop,
    x.startFrame = some start ∧ x.stopFrame = some stop ∧ addsUp x.recordsWritten x.recordsLost 0 (stop - start)

/-- The record law and the closing law of each slot; a buffer handed back as REMOVED belongs to a slot that has been lost
(R107); and every geometry has a band, so that every frame record is a real one (R37, R104). -/
def State.RecordLaw (s : State) : Prop :=
  (∀ i, (s.slot i).RecordLaw ∧ (s.slot i).ClosingLaw) ∧
  (∀ h ∈ s.path.card.handbacks, h.result = .removed → (s.slot h.slot).state = .free) ∧
  (∀ g, s.path.window.geometry = some g ∨ s.path.window.pending = some g → 1 ≤ g.bands) ∧
  ∀ f, s.path.window.frame = some f → 1 ≤ f.geometry.bands

/-! ### The write queue, the track buffers and the retained clips -/

/-- The slot's track buffer that an entry writes. -/
def Entry.place? (e : Entry) : Option (Fin 4 × Fin 2) :=
  match e.owner, e.data with
  | .slot i _, .buffer b => some (i, b)
  | _, _ => none

/-- The track buffers that wait in the write queue or to be handed back. -/
def Card.places (c : Card) : List (Fin 4 × Fin 2) :=
  c.queue.filterMap Entry.place? ++ c.handbacks.map fun h => (h.slot, h.buffer)

/-- A buffer is QUEUED (R96). -/
def TrackBuffer.isQueued (t : TrackBuffer) : Bool :=
  match t with
  | .queuedTrack _ => true
  | .queuedSummary _ => true
  | _ => false

/-- An entry that a slot owns: the slot is RECORDING or CLOSING; a VIDEO entry holds blocks and the slot is not past step 3,
a TRACK entry holds a track buffer and a SUMMARY entry the summary in buffer 0 (R76, R99, R104, R105). -/
def State.entryHolds (s : State) (e : Entry) : Prop :=
  ∀ i stream, e.owner = .slot i stream →
    ((s.slot i).state = .recording ∨ (s.slot i).state = .closing) ∧
    match stream with
    | .video => (∃ blocks, e.data = .blocks blocks) ∧ (s.slot i).step ≠ .sealing
    | .track => ∃ b records, e.data = .buffer b ∧ (s.slot i).buffers[b] = .queuedTrack records
    | .summary => ∃ x, e.data = .buffer 0 ∧ (s.slot i).buffers[0] = .queuedSummary x

/-- The buffers and the step of a slot agree: an ARMED slot has FREE buffers and nothing written; at step 5, and only there,
buffer 0 holds the summary, with buffer 1 FREE (R96, R104, R105). -/
def Slot.BufferLaw (s : Slot) : Prop :=
  (s.state = .armed → s.written = 0 ∧ ∀ b : Fin 2, s.buffers[b] = .free) ∧
  (s.step = .sealing → s.state = .closing ∧ (∃ x, s.buffers[0] = .queuedSummary x) ∧ s.buffers[1] = .free) ∧
  ∀ (b : Fin 2) x, s.buffers[b] = .queuedSummary x → s.step = .sealing

/-- The retained clip list that the slots give: one entry for each slot RECORDING or CLOSING, in slot order (R155). -/
def State.openClips (s : State) : List RetainedClip :=
  slotIndices.filterMap fun i =>
    match (s.slot i).state with
    | .recording => some ⟨i, (s.slot i).clip, false, (s.slot i).written⟩
    | .closing => some ⟨i, (s.slot i).clip, true, (s.slot i).written⟩
    | _ => none

/-- At most 56 entries from packets and 64 in all, since a track buffer waits in one place at most (R76); entries, handbacks,
buffers and closing steps agree (R96 to R107); the retained clip list has one entry a slot, in slot order, and is the list
that the slots give while the path domain is up, when it is down every slot being FREE (R155, R156). -/
def State.ClipLaw (s : State) : Prop :=
  (s.path.card.queue.filter Entry.fromPacket).length ≤ 56 ∧ s.path.card.queue.length ≤ 64 ∧ s.path.card.places.Nodup ∧
  (∀ e ∈ s.path.card.queue, s.entryHolds e) ∧
  (∀ h ∈ s.path.card.handbacks, (s.slot h.slot).state = .free ∨
    (h.result ≠ .removed ∧ (s.slot h.slot).buffers[h.buffer].isQueued = true)) ∧
  (∀ i, (s.slot i).BufferLaw) ∧
  (s.mon.energy.retained.map RetainedClip.slot).Pairwise (· < ·) ∧
  (s.pathUp = true → s.mon.energy.retained = s.openClips) ∧
  (s.pathUp = false → ∀ i, (s.slot i).state = .free)

/-! ### The law of the upstream lane -/

/-- While the path domain runs, the lane is free only where neither the frame stream nor a class has a unit ready (R165). -/
def State.LaneSettled (s : State) : Prop :=
  s.path.link.lane = none → s.path.link.stream = [] ∧ ∀ c, s.classReady c = false

/-- The unit being sent is still at the head of what it came from: a frame unit of the frame stream, a reply part of the
reply queue, a READ DATA cell of the read buffer (R94, R162, R165, log 12); and a running path domain leaves no unit waiting
for a free lane (R165). -/
def State.LaneLaw (s : State) : Prop :=
  s.path.card.ReadLaw ∧ (s.pathUp = true → s.LaneSettled) ∧
  match s.path.link.lane with
  | some (.frame u) => s.path.link.stream.head? = some u
  | some (.reply r part last) =>
    s.path.link.replies.head? = some r ∧ part = s.path.link.partsSent ∧ (last = true ↔ r.parts ≤ part + 1)
  | some (.readData tag block part _) =>
    part < 8 ∧ ∃ blocks, s.path.card.readBuffer = .sending tag blocks (8 * block + part) ∧ block < blocks.length
  | some (.credit _) => True
  | some (.notice _ _) => True
  | none => True

/-! ### The formulas of an integration, as the rules give them -/

/-- The sum s + Δθ − leak of an axis: the increment of R18, the effective leak coefficient of R19, and the leak truncated
toward zero of R20. -/
def axisSum (k a limit : Nat) (g : Int) (dt : Nat) (shake carry : Int) : Int :=
  shake + (g * k * dt + carry) / 16000000 -
    (shake * (if 3 * limit / 4 < shake.natAbs then min (4 * a) 16383 else a : Nat) * dt).tdiv 268435456

/-- A value held within a limit of either sign (R20, R22). -/
def heldWithin (v : Int) (limit : Nat) : Int := max (-(limit : Int)) (min limit v)

/-- The increments of a run of samples of one axis in order: the whole microradians passed on, and the last carry (R18). -/
def runIncrements (k : Nat) (samples : List (Int × Nat)) (carry : Int) : Int × Int :=
  match samples with
  | [] => (0, carry)
  | x :: rest =>
    let i := increment x.1 k x.2 carry
    let r := runIncrements k rest i.2
    (i.1 + r.1, r.2)

/-- The blocks of card data an entry carries. -/
def Entry.blocks (e : Entry) : List Block :=
  match e.data with
  | .blocks b => b
  | .buffer _ => []

end Sys2Proof.Machine
end

