-- ==== Sys2Proof/WellFormed.lean ====
section
/-! DEFINITION. Well-formed commands: every argument fits the bytes that R170 gives its field, and a data packet
carries the blocks its header counts. The range checks of a request are its owner's (Machine/Operands.lean): a
well-formed request may still be refused. -/

namespace Sys2Proof

/-- A number that fits k unsigned bytes. -/
def fitsBytes (k n : Nat) : Bool := n < 256 ^ k

/-- A number that fits two signed bytes. -/
def fitsSigned16 (n : Int) : Bool := -32768 ≤ n && n ≤ 32767

/-- MOTION SETUP's fields fit their bytes (01 section 1.2, 02 section 2.3). -/
def MotionArgs.wellFormed (a : MotionArgs) : Bool :=
  fitsBytes 1 a.startAddress && a.bias.all fitsSigned16 && fitsBytes 3 a.threshold && fitsBytes 1 a.holdMs &&
  a.rate.all (fitsBytes 2) && a.leak.all (fitsBytes 2) && a.limit.all (fitsBytes 3)

/-- LOAD GEOMETRY's fields fit their bytes (03 section 3.1). -/
def Geometry.wellFormed (g : Geometry) : Bool :=
  fitsBytes 2 g.sensorW && fitsBytes 2 g.sensorH && fitsBytes 2 g.w && fitsBytes 2 g.h && fitsBytes 1 g.bands &&
  fitsBytes 2 g.watchMs

/-- A SCAN LIST entry's fields fit their bytes (R115). -/
def ScanArg.wellFormed (e : ScanArg) : Bool := fitsBytes 2 e.rate && fitsBytes 1 e.discards

/-- PROTECT SETUP's fields fit their bytes (08 section 8.1). -/
def ProtectArgs.wellFormed (p : ProtectArgs) : Bool :=
  fitsBytes 2 p.scMa && fitsBytes 1 p.scSteps && fitsBytes 2 p.docMa && fitsBytes 1 p.docMs && fitsBytes 2 p.cocMa &&
  fitsBytes 1 p.cocMs && fitsBytes 2 p.covMv && fitsBytes 2 p.covMs && fitsBytes 2 p.duvMv && fitsBytes 2 p.duvMs

/-- CHARGE SETUP's fields fit their bytes (09 section 9.1). -/
def ChargeSettings.wellFormed (c : ChargeSettings) : Bool :=
  fitsBytes 2 c.icc && fitsBytes 2 c.vcv && fitsBytes 2 c.iterm && fitsBytes 2 c.prechargeMv &&
  fitsBytes 1 c.prechargeMin && fitsBytes 2 c.fastMin && fitsBytes 2 c.vfloor

/-- A data packet's good payload holds the blocks its header counts (12 section 12.1). -/
def payloadFits (n : Nat) (payload : Option (List Block)) : Bool :=
  match payload with
  | none => true
  | some blocks => blocks.length == n

/-- Every argument fits the bytes of its field. -/
def Instr.wellFormed (i : Instr) : Bool :=
  match i with
  | .motionSetup _ a => a.wellFormed
  | .imuWrite _ address data => fitsBytes 1 address && data.length ≤ 252
  | .imuRead _ address count => fitsBytes 1 address && fitsBytes 1 count
  | .imuReadDone bytes => bytes.length ≤ 8
  | .lensTable _ _ spacing entries => fitsBytes 2 spacing && entries.toList.all (fitsBytes 2)
  | .loadGeometry _ g => g.wellFormed
  | .clipArm _ slot clip _ lowWater => fitsBytes 1 slot && fitsBytes 2 clip && fitsBytes 2 (lowWater.getD 0)
  | .extentAdd _ slot _ start length => fitsBytes 1 slot && fitsBytes 4 start && fitsBytes 4 length
  | .clipStart _ slot => fitsBytes 1 slot
  | .clipStop _ slot _ => fitsBytes 1 slot
  | .clipDrop _ slot => fitsBytes 1 slot
  | .clipData slot n payload => fitsBytes 1 slot && fitsBytes 1 n && payloadFits n payload
  | .plainWrite start n payload => fitsBytes 4 start && fitsBytes 1 n && payloadFits n payload
  | .cardSetup _ retry timeout wait => fitsBytes 1 retry && fitsBytes 2 timeout && fitsBytes 2 wait
  | .cardRead _ payload => fitsBytes 4 (payload.getD ⟨0, 0⟩).start && fitsBytes 1 (payload.getD ⟨0, 0⟩).count
  | .currentRate _ rate => fitsBytes 2 rate
  | .scanList _ entries => entries.length ≤ 63 && entries.all ScanArg.wellFormed
  | .counterSet _ a => fitsBytes 2 a.capacity && fitsBytes 4 a.seed && fitsBytes 2 a.reserve && fitsBytes 2 a.lowCell
  | .protectSetup _ a => a.wellFormed
  | .chargeSetup _ a => a.wellFormed
  | .powerOnReset | .pathResetEnd | .dataReadyEdge | .sampleReadComplete _ | .sampleIntegration | .imuSilent
  | .shockHoldExpiry | .imuWriteDone | .steadyMode _ _ | .recenter _ | .frameStartUnit | .lineUnit _
  | .frameEndUnit | .sensorStall | .cardDetectRise | .cardDetectFall | .cardDebounceExpiry | .cardStartResponse _
  | .startDeadlineExpiry | .cardRescan _ | .transactionBegin | .cardCommandResponse _ | .writeBlockAck _ | .busyEnd
  | .busyTimeout | .cardResponseTimeout | .readBlockReceived _ | .retryBegin | .readWaitTimeout | .bufferHandback
  | .closingPad _ | .summaryBuild _ | .currentResult _ | .voltageResult _ | .scComparatorRise | .scComparatorFall
  | .scDelayExpiry | .docTimerExpiry | .cocTimerExpiry | .covTimerExpiry | .duvWarningExpiry | .duvCutExpiry
  | .dischargeHoldoffExpiry | .chargeHoldoffExpiry | .dischargeSwitch _ _ | .balanceSet _ _
  | .protectTransferExpiry _ | .chargeInhibit _ _ | .qualifyDeadlineExpiry | .prechargeTimerExpiry
  | .fastTimerExpiry | .zeroDeadlineExpiry | .weakClearExpiry | .pathReset _ _ | .headerError
  | .unknownRequest _ _ | .upstreamUnitSent | .identify _ | .statusRead _ | .energyRead _
  | .controlPayloadFailure _ => true

/-- Who sends a command: the camera processor over the path link, a device at one of the ports, time itself, or the part
as a follow-on of its own (INVENTORY, Agents). -/
inductive Sender where | processor | device | time | part
deriving DecidableEq, Repr

/-- The sender of a command. -/
def Instr.sender (i : Instr) : Sender :=
  match i with
  | .motionSetup _ _ | .imuWrite _ _ _ | .imuRead _ _ _ | .lensTable _ _ _ _ | .steadyMode _ _ | .recenter _
  | .loadGeometry _ _ | .clipArm _ _ _ _ _ | .extentAdd _ _ _ _ _ | .clipStart _ _ | .clipStop _ _ _
  | .clipDrop _ _ | .cardRescan _ | .cardSetup _ _ _ _ | .cardRead _ _ | .currentRate _ _ | .scanList _ _
  | .counterSet _ _ | .dischargeSwitch _ _ | .balanceSet _ _ | .protectSetup _ _ | .chargeInhibit _ _
  | .chargeSetup _ _ | .pathReset _ _ | .unknownRequest _ _ | .identify _ | .statusRead _ | .energyRead _
  | .controlPayloadFailure _ | .clipData _ _ _ | .plainWrite _ _ _ | .headerError => .processor
  | .powerOnReset | .dataReadyEdge | .sampleReadComplete _ | .imuWriteDone | .imuReadDone _ | .frameStartUnit
  | .lineUnit _ | .frameEndUnit | .cardDetectRise | .cardDetectFall | .cardStartResponse _
  | .cardCommandResponse _ | .writeBlockAck _ | .busyEnd | .readBlockReceived _ | .currentResult _
  | .voltageResult _ | .scComparatorRise | .scComparatorFall | .upstreamUnitSent => .device
  | .pathResetEnd | .imuSilent | .shockHoldExpiry | .sensorStall | .cardDebounceExpiry | .startDeadlineExpiry
  | .busyTimeout | .cardResponseTimeout | .readWaitTimeout | .scDelayExpiry | .docTimerExpiry | .cocTimerExpiry
  | .covTimerExpiry | .duvWarningExpiry | .duvCutExpiry | .dischargeHoldoffExpiry | .chargeHoldoffExpiry
  | .protectTransferExpiry _ | .qualifyDeadlineExpiry | .prechargeTimerExpiry | .fastTimerExpiry
  | .zeroDeadlineExpiry | .weakClearExpiry => .time
  | .sampleIntegration | .transactionBegin | .retryBegin | .bufferHandback | .closingPad _ | .summaryBuild _ => .part

/-- The tag of a request; no other command carries one (11 section 11.1). -/
def Instr.tag? (i : Instr) : Option Byte :=
  match i with
  | .motionSetup tag _ => some tag
  | .imuWrite tag _ _ => some tag
  | .imuRead tag _ _ => some tag
  | .lensTable tag _ _ _ => some tag
  | .steadyMode tag _ => some tag
  | .recenter tag => some tag
  | .loadGeometry tag _ => some tag
  | .clipArm tag _ _ _ _ => some tag
  | .extentAdd tag _ _ _ _ => some tag
  | .clipStart tag _ => some tag
  | .clipStop tag _ _ => some tag
  | .clipDrop tag _ => some tag
  | .cardRescan tag => some tag
  | .cardSetup tag _ _ _ => some tag
  | .cardRead tag _ => some tag
  | .currentRate tag _ => some tag
  | .scanList tag _ => some tag
  | .counterSet tag _ => some tag
  | .dischargeSwitch tag _ => some tag
  | .balanceSet tag _ => some tag
  | .protectSetup tag _ => some tag
  | .chargeInhibit tag _ => some tag
  | .chargeSetup tag _ => some tag
  | .pathReset tag _ => some tag
  | .unknownRequest tag _ => some tag
  | .identify tag => some tag
  | .statusRead tag => some tag
  | .energyRead tag => some tag
  | .controlPayloadFailure tag => some tag
  | .clipData _ _ _ | .plainWrite _ _ _ | .headerError | .powerOnReset | .dataReadyEdge | .sampleReadComplete _
  | .imuWriteDone | .imuReadDone _ | .frameStartUnit | .lineUnit _ | .frameEndUnit | .cardDetectRise
  | .cardDetectFall | .cardStartResponse _ | .cardCommandResponse _ | .writeBlockAck _ | .busyEnd
  | .readBlockReceived _ | .currentResult _ | .voltageResult _ | .scComparatorRise | .scComparatorFall
  | .upstreamUnitSent | .pathResetEnd | .imuSilent | .shockHoldExpiry | .sensorStall | .cardDebounceExpiry
  | .startDeadlineExpiry | .busyTimeout | .cardResponseTimeout | .readWaitTimeout | .scDelayExpiry
  | .docTimerExpiry | .cocTimerExpiry | .covTimerExpiry | .duvWarningExpiry | .duvCutExpiry
  | .dischargeHoldoffExpiry | .chargeHoldoffExpiry | .protectTransferExpiry _ | .qualifyDeadlineExpiry
  | .prechargeTimerExpiry | .fastTimerExpiry | .zeroDeadlineExpiry | .weakClearExpiry | .sampleIntegration
  | .transactionBegin | .retryBegin | .bufferHandback | .closingPad _ | .summaryBuild _ => none

end Sys2Proof
end

