-- ==== Sys2Proof/Certificates/Slice0/Obligations.lean ====
section
/-! DEFINITION. The statements, by block: the queue, time, reset, the path link and the laws that hold at every moment; then
motion intake, settings, steadying, the frame window, clip slots, the card, closing, measurement, protection, charging. A
witness of the hypotheses of each stands in Tests/Slice0.lean. -/

open Sys2Proof Sys2Proof.Machine

/-! ### The queue, time and the end of a step -/

/-- A step takes the command at the front of the queue and runs exactly it, on the state with the queue's rest. 95 says that
each command is whole and indivisible; that a queue orders them is the model's (log 5). -/
def Obligations.StepRunsFrontCommand : Prop :=
  ∀ (c : Instr) (rest : List Instr) (s : State), s.pending = c :: rest → step s = exec c { s with pending := rest }

/-- With nothing waiting, a step runs what is due in the part, and otherwise lets one microsecond pass (the model's choice,
log 2). Time that passes moves the two counters and the SC count and nothing else; run on by the time left to a deadline,
a counter stands at it, and the expiry of a deadline that is not set changes nothing (R1, R110, R125; log 3). -/
def Obligations.TimePassesOnAnEmptyQueue : Prop :=
  (∀ s : State, s.pending = [] →
    (∀ c, s.due = some c → step s = exec c s) ∧ (s.due = none → step s = .next (s.elapse 1))) ∧
  (∀ (s : State) d, s.pathUp = true → before s.now d = true → (s.elapse (s.pathLeft d)).now = d) ∧
  (∀ (s : State) d, s.mon.conv.subMs < 1000 → before s.monNow d = true → (s.elapse (s.monLeft d)).monNow = d) ∧
  (∀ (s : State) us, s.pathUp = true → (s.elapse us).now = s.now + BitVec.ofNat 32 us) ∧
  (∀ (s : State) us, s.pathUp = false → (s.elapse us).now = s.now) ∧
  (∀ (s : State) us, s.mon.conv.subMs < 1000 →
    (s.elapse us).monNow = s.monNow + BitVec.ofNat 32 ((s.mon.conv.subMs + us) / 1000)) ∧
  (∀ (s : State) us, s.elapse us =
    { s with
      path.intake.timestamp := (s.elapse us).now
      mon.conv.time := (s.elapse us).monNow
      mon.conv.subMs := (s.elapse us).mon.conv.subMs
      mon.prot.scLeft := s.mon.prot.scLeft.map (· - us) }) ∧
  ∀ (c : Instr) (s : State), (c, none) ∈ s.timers → exec c s = .next s

/-- Every command ends in a next state, leaves the commands that wait as they were, and changes the stored levels of the
input pins (log 6, DESIGN CHOICE) only where it is an event on a pin, or PROTECT_TRANSFER_EXPIRY, which carries the
comparator's signal under the new threshold (log 27). -/
def Obligations.CommandsNeverStopAndLeaveTheQueue : Prop :=
  ∀ (c : Instr) (s : State), ∃ t, exec c s = .next t ∧ t.pending = s.pending ∧
    (t.pins = s.pins ∨ c = .cardDetectRise ∨ c = .cardDetectFall ∨ c = .scComparatorRise ∨ c = .scComparatorFall ∨
      ∃ signal, c = .protectTransferExpiry signal)

/-! ### Reset -/

/-- What the part holds after POR, record by record as the head tables of 01 to 11 give it: the path domain in its reset of
2 ms with cause POR, every block of it at its path-reset value; the monitor domain at its POR values, the rail UP; and no
command waiting. The model's own fields in these records (idlePeak, integrationDue, startStep, handbacks, lastSignal, subMs,
and the track setting, low-water and SPACE LOW mark of a FREE slot) hold what logs 2, 9, 11, 13, 26 and 35 choose. -/
def Obligations.ResetLeavesTheSpecsValues : Prop :=
  State.reset.path = Path.afterReset ∧ State.reset.pending = [] ∧
  State.reset.path.intake =
    { timestamp := 0, state := .stopped
      active :=
        { enable := false, startAddress := 0, order := .highFirst, axes := ⟨.z, .y, .x⟩, signs := ⟨.plus, .plus, .plus⟩
          bias := ⟨0, 0, 0⟩, threshold := 0, holdMs := 30, rate := ⟨16, 16, 16⟩, leak := ⟨0, 0, 0⟩
          limit := ⟨2000000, 2000000, 2000000⟩ }
      pending := none, port := .free, reference := none, lastSample := none, silence := none, lastEdge := none
      shockHold := none, framePeak := 0, idlePeak := 0, overruns := 0, gaps := 0, silentEntries := 0
      integrationDue := false } ∧
  State.reset.path.engine =
    { shake := ⟨0, 0, 0⟩, carry := ⟨0, 0, 0⟩, lensH := none, lensV := none, pendingH := none, pendingV := none
      mode := .off, modeRequest := none, recentrePending := false
      flags := ⟨false, false, false, false, false, false⟩ } ∧
  State.reset.path.window =
    { geometry := none, pending := none, path := .idle, discardMarker := false, frameCounter := 0, generation := 0
      frame := none, lastBegun := none, watch := none, unsetFrames := 0, orphanLines := 0, shortFrames := 0
      stalls := 0 } ∧
  (∀ i, State.reset.slot i =
    { state := .free, clip := 0, track := false, lowWater := 0, spaceLowArmed := false, startFrame := none
      stopFrame := none, video := [], videoCursor := ⟨0, none⟩, trackList := [], accepted := 0, written := 0, gaps := 0
      faults := 0, firstFault := none, recordsWritten := 0, recordsLost := 0, cause := none
      buffers := #v[.free, .free], nextTrack := none, trackCursor := ⟨0, none⟩, firstStamp := none, step := .none }) ∧
  State.reset.path.card =
    { queue := [], nextSeq := 0, state := .absent, startStep := .resetCommand, capacity := none, debounce := none
      startDeadline := none, response := none, busy := none, transaction := none, failures := 0, reads := []
      readBuffer := .free, retryLimit := 3, writeTimeout := 500, readWait := 1000, transactions := 0, countedRetries := 0
      uncountedRetries := 0, failedTransactions := 0, handbacks := [], lastSignal := none } ∧
  State.reset.path.link =
    { outstanding := 0, replies := [], partsSent := 0, notices := [], lostSinceSent := 0, received := 0, released := 0
      creditPending := true, stream := [], pointer := .credit, cellsWhileFrame := 0, headerErrors := 0, payloadErrors := 0
      requestsLost := 0, noticesLost := 0, protectTag := none, lane := none } ∧
  State.reset.mon.conv =
    { time := 0, subMs := 0, rate := 64, pendingRate := none, settling := 2
      scanList := [⟨.cell1, 64, 1⟩, ⟨.cell2, 64, 1⟩, ⟨.input, 64, 1⟩, ⟨.battTemp, 64, 1⟩, ⟨.dieTemp, 64, 1⟩]
      pendingScan := none, scanIndex := 0, scanDiscards := 1, histories := ⟨[], [], [], [], [], [], []⟩, charge := 0
      remainder := 0, seeded := false, capacity := 2000, reserve := 50, lowCell := 3400 } ∧
  State.reset.mon.prot =
    { settings := ⟨12000, 4, 5000, 20, 3000, 20, 4300, 1000, 3000, 4000, true⟩, transfer := none, scLeft := none
      doc := none, coc := none, cov := none, duv := none, earlyWarning := false, dischargeRequest := true
      recoveryArmed := false, dischargeTrip := false, chargeTrip := false, dischargeHoldoff := none
      chargeHoldoff := none, recentTrips := [], lockout := false, duvCut := false, covBlocking := false
      balanceMode := .auto, manual1 := false, manual2 := false, switches := ⟨true, false, false, false, false⟩ } ∧
  State.reset.mon.chg =
    { state := .noInput, inputPresent := false, highCount := 0, inhibit := false
      settings := ⟨1000, 4200, 100, 3000, 30, 240, 4500⟩, qualify := none, prechargeTimer := .absent
      fastTimer := .absent, windowInside := false, dieHot := false, iccEff := 1000, iFloor := 1000, zero := none
      weakClear := none, causes := ⟨false, false, false, false⟩, lowCount := 0, setpoint := 0, demand := .none } ∧
  State.reset.mon.energy =
    { state := .low, railUp := true, cause := .por, resetEnd := some 2, retained := [], reserve := 50, lowCell := 3400 }

/-- Every law of the part holds at reset. -/
def Obligations.ResetMeetsEveryLaw : Prop :=
  State.reset.ProtectionLaw ∧ State.reset.PowerLaw ∧ State.reset.RequestLaw ∧ State.reset.BufferLaw ∧
  State.reset.ShakeLaw ∧ State.reset.WindowLaw ∧ State.reset.ExtentLaw ∧ State.reset.ClosingLaw ∧
  State.reset.RecordLaw ∧ State.reset.ClipLaw ∧ State.reset.LaneLaw

/-- POR gives both domains their reset values whatever went before, leaving pins and queue (log 6); the end of a path reset
lets the path domain run, puts PATH READY, with the clips that were open, first in the notice queue and empties the
retained clip list; a card already seated counts as a rise of card-detect; and the lane begins the CREDIT cell carrying 0
(R78, R110, R156, R164, R168). -/
def Obligations.PowerOnResetAndPathResetEnd : Prop :=
  (∀ s : State, exec .powerOnReset s = .next { State.reset with pins := s.pins, pending := s.pending }) ∧
  ∀ (s : State) d, s.mon.energy.resetEnd = some d → s.path = Path.afterReset →
    s.nothingEarlier (s.monLeft d) = true →
    let u := s.elapse (s.monLeft d)
    exec .pathResetEnd s = .next
      { u with
        mon.energy.resetEnd := none
        mon.energy.retained := []
        path.link.notices :=
          [.pathReady s.mon.energy.cause s.mon.energy.retained s.mon.energy.state s.mon.chg.state]
        path.link.creditPending := false
        path.link.pointer := .notice
        path.link.lane := some (.credit 0)
        path.card.debounce := if s.pins.cardDetect then some (u.now + 50000) else none }

/-- PATH RESET: a flag that is neither YES nor NO, or NO with a slot in use or an entry queued, is refused; otherwise the
path domain resets at once for 2 ms with cause REQUEST, without a reply, and the monitor domain runs on (R154, R157). -/
def Obligations.PathResetRequest : Prop :=
  ∀ (s : State) (tag : Byte), s.Takes →
    exec (.pathReset tag none) s = .next (s.replied tag .badArg .none) ∧
    (((∃ i, (s.slot i).state ≠ .free) ∨ s.path.card.queue ≠ []) →
      exec (.pathReset tag (some false)) s = .next (s.replied tag .badState .none)) ∧
    ∀ forced, forced = true ∨ ((∀ i, (s.slot i).state = .free) ∧ s.path.card.queue = []) →
      exec (.pathReset tag (some forced)) s = .next
        { s with
          path := Path.afterReset
          mon.energy.cause := .request
          mon.energy.resetEnd := some (s.monNow + 2) }

/-! ### The path link -/

/-- A request that finds 8 outstanding is lost and noticed whatever it asks, and one that finds the path domain down or in
reset is not taken; a notice joins the queue of 16, is counted lost when it is full, and is neither offered nor counted
while the path domain is down (R135, R161, R163, R168). -/
def Obligations.RequestsAndNoticesBeyondTheirLimits : Prop :=
  (∀ (c : Instr) (tag : Byte) (s : State), c.tag? = some tag →
    (s.pathUp = false → exec c s = .next s) ∧
    (s.pathUp = true → 8 ≤ s.path.link.outstanding →
      exec c s = .next
        ({ s with path.link.requestsLost := min (s.path.link.requestsLost + 1) 4294967295 }.notify
          (.requestLost tag (match c with
            | .cardRead _ _ => .cardRead
            | _ => .control))))) ∧
  ∀ (s : State) (n : Notice),
    (s.pathUp = false → s.notify n = s) ∧
    (s.pathUp = true → s.path.link.notices.length < 16 → s.notify n = s.noticed n) ∧
    (s.pathUp = true → 16 ≤ s.path.link.notices.length →
      s.notify n = State.chooseUnit
        { s with
          path.link.lostSinceSent := min (s.path.link.lostSinceSent + 1) 65535
          path.link.noticesLost := min (s.path.link.noticesLost + 1) 4294967295 })

/-- The lane. UPSTREAM_UNIT_SENT ends the unit being sent and makes the arbiter's choice. At its end a frame unit leaves the
stream, a reply part counts as sent and the last one ends its request, a READ DATA cell counts as sent and the last one
ends its read with OK; credit pending, and a notice with the count lost, were settled when their cell began. The choice
is made too at each operation that makes a unit ready, and is none while a unit is being sent; it takes the frame
unit when no cell is ready or two cells have gone since the last one, and otherwise the first class with a cell ready in
the order REPLY, READ DATA, CREDIT, NOTICE from the class pointer, which moves past it (R94, R161 to R165). Which effects
fall at the beginning and which at the end of a unit is the reading of log 12, and that PATH READY too carries the count
lost before its cell began is log 38. -/
def Obligations.LaneSendsOneUnit : Prop :=
  (∀ s : State, s.pathUp = true → exec .upstreamUnitSent s = .next s.endUnit.chooseUnit) ∧
  (∀ s : State,
    (∀ tag code data, s.pathUp = true → s.reply tag code data = s.answered tag code data) ∧
    (∀ u, s.pushStream u = State.chooseUnit { s with path.link.stream := s.path.link.stream ++ [u] }) ∧
    (∀ tag blocks, s.offerRead tag blocks = State.chooseUnit { s with path.card.readBuffer := .sending tag blocks 0 }) ∧
    ∀ n, n ≠ 0 → s.release n = State.chooseUnit
      { s with path.link.released := s.path.link.released + BitVec.ofNat 16 n, path.link.creditPending := true }) ∧
  (∀ r : Reply, ((∃ e, r.data = .energy e) → r.parts = 2) ∧ ((∀ e, r.data ≠ .energy e) → r.parts = 1)) ∧
  (∀ s : State,
    (s.path.link.lane = none → s.endUnit = s) ∧
    (∀ u, s.path.link.lane = some (.frame u) → s.endUnit =
      { s with path.link.stream := s.path.link.stream.drop 1, path.link.lane := none }) ∧
    (∀ released, s.path.link.lane = some (.credit released) → s.endUnit = { s with path.link.lane := none }) ∧
    (∀ n lost, s.path.link.lane = some (.notice n lost) → s.endUnit = { s with path.link.lane := none }) ∧
    (∀ x part last r rest, s.path.link.lane = some (.reply x part last) → s.path.link.replies = r :: rest →
      (s.path.link.partsSent + 1 < r.parts → s.endUnit =
        { s with path.link.partsSent := s.path.link.partsSent + 1, path.link.lane := none }) ∧
      (r.parts ≤ s.path.link.partsSent + 1 → s.endUnit =
        { s with
          path.link.replies := rest
          path.link.partsSent := 0
          path.link.outstanding := s.path.link.outstanding - 1
          path.link.lane := none })) ∧
    ∀ t block part bytes tag blocks n, s.path.link.lane = some (.readData t block part bytes) →
      s.path.card.readBuffer = .sending tag blocks n →
      (n + 1 < 8 * blocks.length → s.endUnit =
        { s with path.card.readBuffer := .sending tag blocks (n + 1), path.link.lane := none }) ∧
      (8 * blocks.length ≤ n + 1 → s.pathUp = true → s.endUnit =
        { s with
          path.card.readBuffer := .free
          path.card.reads := s.path.card.reads.drop 1
          path.link.replies := s.path.link.replies ++ [⟨tag, .ok, .none⟩]
          path.link.lane := none })) ∧
  (∀ s : State, s.path.link.lane ≠ none → s.chooseUnit = s) ∧
  ∀ s : State, s.path.link.lane = none →
    let ready := fun c : CellClass => match c with
      | .reply => s.path.link.replies ≠ []
      | .readData => ∃ tag blocks n, s.path.card.readBuffer = .sending tag blocks n ∧ n < 8 * blocks.length
      | .credit => s.path.link.creditPending = true
      | .notice => s.path.link.notices ≠ []
    let order : List CellClass := match s.path.link.pointer with
      | .reply => [.reply, .readData, .credit, .notice]
      | .readData => [.readData, .credit, .notice, .reply]
      | .credit => [.credit, .notice, .reply, .readData]
      | .notice => [.notice, .reply, .readData, .credit]
    let first := fun c : CellClass => ∃ before after, order = before ++ c :: after ∧ ready c ∧ ∀ d ∈ before, ¬ready d
    ((∀ c, ¬ready c) → s.path.link.stream = [] → s.chooseUnit = s) ∧
    (∀ u rest, s.path.link.stream = u :: rest → (∀ c, ¬ready c) ∨ 2 ≤ s.path.link.cellsWhileFrame →
      s.chooseUnit = { s with path.link.cellsWhileFrame := 0, path.link.lane := some (.frame u) }) ∧
    (s.path.link.stream = [] ∨ s.path.link.cellsWhileFrame < 2 →
      let l := s.path.link
      let cells := if l.stream.isEmpty then l.cellsWhileFrame else l.cellsWhileFrame + 1
      (∀ r rest, first .reply → l.replies = r :: rest → s.chooseUnit =
        { s with
          path.link.lane := some (.reply r l.partsSent (decide (r.parts ≤ l.partsSent + 1)))
          path.link.pointer := .readData
          path.link.cellsWhileFrame := cells }) ∧
      (∀ tag blocks n b, first .readData → s.path.card.readBuffer = .sending tag blocks n → blocks[n / 8]? = some b →
        s.chooseUnit =
          { s with
            path.link.lane := some (.readData tag (n / 8) (n % 8) ((b.toList.drop (64 * (n % 8))).take 64))
            path.link.pointer := .credit
            path.link.cellsWhileFrame := cells }) ∧
      (first .credit → s.chooseUnit =
        { s with
          path.link.creditPending := false
          path.link.lane := some (.credit l.released)
          path.link.pointer := .notice
          path.link.cellsWhileFrame := cells }) ∧
      ∀ n rest, first .notice → l.notices = n :: rest → s.chooseUnit =
        { s with
          path.link.notices := rest
          path.link.lostSinceSent := 0
          path.link.lane := some (.notice n l.lostSinceSent)
          path.link.pointer := .reply
          path.link.cellsWhileFrame := cells })

/-- IDENTIFY answers the family code, part number and revision; STATUS READ the fifteen counters as they stand, clearing
none, and a path reset sets each of them to 0 (R166). -/
def Obligations.IdentifyAndStatusRead : Prop :=
  (∀ (s : State) (tag : Byte), s.Takes →
    exec (.identify tag) s = .next (s.replied tag .ok (.identity 0x2B 460 3)) ∧
    exec (.statusRead tag) s = .next (s.replied tag .ok (.counters
      { unsetFrames := s.path.window.unsetFrames
        orphanLines := s.path.window.orphanLines
        shortFrames := s.path.window.shortFrames
        stalls := s.path.window.stalls
        overruns := s.path.intake.overruns
        gaps := s.path.intake.gaps
        silentEntries := s.path.intake.silentEntries
        transactions := s.path.card.transactions
        countedRetries := s.path.card.countedRetries
        uncountedRetries := s.path.card.uncountedRetries
        failedTransactions := s.path.card.failedTransactions
        headerErrors := s.path.link.headerErrors
        payloadErrors := s.path.link.payloadErrors
        requestsLost := s.path.link.requestsLost
        noticesLost := s.path.link.noticesLost }))) ∧
  ∀ (s : State) (cause : ResetCause),
    (s.beginPathReset cause).counters = ⟨0, 0, 0, 0, 0, 0, 0, 0, 0, 0, 0, 0, 0, 0, 0⟩

/-- Packets that reach no owner: a header error is counted and noticed with the received total, and moves neither total; a
control payload that fails is counted and answered BAD_CHECK; no request kind code, code 0 and codes above 26 are answered
UNKNOWN, and codes 1 to 26, which reach the link interface only with a wrong argument length (log 23), BAD_ARG (R159, R160,
R169). ENERGY READ answers one snapshot of the monitor domain, item by item of R167, and changes nothing in it. -/
def Obligations.LinkInterfaceAnswers : Prop :=
  (∀ s : State, s.pathUp = true →
    exec .headerError s = .next
      ({ s with path.link.headerErrors := min (s.path.link.headerErrors + 1) 4294967295 }.notify
        (.linkError (min (s.path.link.headerErrors + 1) 4294967295) s.path.link.received))) ∧
  (∀ (s : State) (tag : Byte), s.Takes →
    exec (.controlPayloadFailure tag) s = .next
      ({ s with path.link.payloadErrors := min (s.path.link.payloadErrors + 1) 4294967295 }.replied tag .badCheck .none) ∧
    exec (.unknownRequest tag none) s = .next (s.replied tag .unknown .none) ∧
    (∀ code : Byte, code.toNat = 0 ∨ 26 < code.toNat →
      exec (.unknownRequest tag (some code)) s = .next (s.replied tag .unknown .none)) ∧
    (∀ code : Byte, 1 ≤ code.toNat → code.toNat ≤ 26 →
      exec (.unknownRequest tag (some code)) s = .next (s.replied tag .badArg .none)) ∧
    exec (.energyRead tag) s = .next (s.replied tag .ok (.energy s.energySnapshot))) ∧
  ∀ s : State,
    let h := s.mon.conv.histories
    let p := s.mon.prot
    let c := s.mon.chg
    let left := fun (deadline : Option Time) (n : Nat) =>
      (deadline = none → n = 0) ∧
      ∀ d, deadline = some d →
        (1 ≤ (d - s.monNow).toNat → (d - s.monNow).toNat ≤ 2147483647 → n = (d - s.monNow).toNat) ∧
        (d = s.monNow ∨ 2147483648 ≤ (d - s.monNow).toNat → n = 0)
    ∃ discharge charge : Nat, left p.dischargeHoldoff discharge ∧ left p.chargeHoldoff charge ∧
      s.energySnapshot =
        { current := h.current.head?, cell1 := h.cell1.head?, cell2 := h.cell2.head?, input := h.input.head?
          battTemp := h.battTemp.head?, dieTemp := h.dieTemp.head?, pack := h.pack.head?
          charge := s.mon.conv.charge, soc := min 1000 (s.mon.conv.charge / s.mon.conv.capacity)
          seeded := s.mon.conv.seeded, charger := c.state, causes := c.causes, setpoint := c.setpoint
          switches := p.switches, dischargeRequest := p.dischargeRequest, balanceMode := p.balanceMode
          dischargeTrip := p.dischargeTrip, chargeTrip := p.chargeTrip, lockout := p.lockout, duvCut := p.duvCut
          covBlocking := p.covBlocking, earlyWarning := p.earlyWarning, dischargeLeft := discharge
          chargeLeft := charge, recentTrips := p.recentTrips, energy := s.mon.energy.state, time := s.monNow }

/-! ### The laws that hold at every moment -/

/-- Switches, latches and hold-offs agree after every command and every step, from every state in which they agree
(R129 to R133). -/
def Obligations.ProtectionLawIsKept : Prop := Kept State.ProtectionLaw

/-- Rail, setpoint and reset of the path domain agree after every command and every step, from every state in which they
agree (R147, R153, R154). -/
def Obligations.PowerLawIsKept : Prop := Kept State.PowerLaw

/-- Each request taken is in exactly one place until its reply is sent, within the bounds on requests, reads and notices,
the unit being sent stays at the head of what it came from, and the lane is free only while no unit is ready, after every command and every step, from every state where
it is so (R91, R94, R161 to R163, R165; log 12). -/
def Obligations.RequestLawIsKept : Prop := Kept State.RequestLaw ∧ Kept State.LaneLaw

/-- Received less released is what the write buffer holds, within 128 blocks and 56 packet entries; and the write queue stays
within 64 entries, agrees with the track buffers and closing steps of the slots, and the retained clip list with the slots
RECORDING or CLOSING, in slot order; after every command and every step, from every state where it is so (R74 to R76, R96,
R105, R155). -/
def Obligations.BufferLawIsKept : Prop := Kept State.BufferLaw ∧ Kept State.ClipLaw

/-- Shake and carry stay within their bounds, windows inside the sensor and the frame stream within 4 lines, after every
command and every step, from every state where they are so (R16, R18, R26, R51). -/
def Obligations.ShakeAndWindowLawsAreKept : Prop := Kept State.ShakeLaw ∧ Kept State.WindowLaw

/-- No block is held twice: the extents of slots in use and the plain writes queued stay disjoint after every command and
every step, from every state where they are (R59). -/
def Obligations.ExtentLawIsKept : Prop := Kept State.ExtentLaw

/-- No slot passes step 1 of its closing with an owed record still to come; and with track on, the records written, lost and
in buffers are the next track frame less the start frame, and those of a built summary its stop frame less its start
frame; after every command and every step, from every state where it is so (R101 to R103, R109). -/
def Obligations.ClosingLawIsKept : Prop := Kept State.ClosingLaw ∧ Kept State.RecordLaw

/-- What the law of the switches gives: the discharge switch is off throughout a discharge hold-off, a lockout and a DUV
cut; the charge switch is on only in CC and CV and never while a charge trip or COV blocking stands; the balance switches
are never on together, and both off while a latch stands (R129, R133). -/
def Obligations.SwitchesObeyTheLatches : Prop :=
  ∀ s : State, s.ProtectionLaw →
    (s.mon.prot.dischargeHoldoff.isSome = true ∨ s.mon.prot.lockout = true ∨ s.mon.prot.duvCut = true →
      s.mon.prot.switches.discharge = false) ∧
    (s.mon.prot.switches.charge = true →
      (s.mon.chg.state = .cc ∨ s.mon.chg.state = .cv) ∧ s.mon.prot.chargeTrip = false ∧
        s.mon.prot.covBlocking = false) ∧
    ¬(s.mon.prot.switches.balance1 = true ∧ s.mon.prot.switches.balance2 = true) ∧
    (s.mon.prot.dischargeTrip = true ∨ s.mon.prot.chargeTrip = true ∨ s.mon.prot.lockout = true ∨
        s.mon.prot.duvCut = true →
      s.mon.prot.switches.balance1 = false ∧ s.mon.prot.switches.balance2 = false)

/-- Over every command: no slot enters RECORDING while the energy state is LOW or CRITICAL, and none but by CLIP START
(R62); no attempt on the card begins while the shock hold is running (R84, R87); and no READ begins while an entry queued
before its arrival remains (R92). -/
def Obligations.WhatNoCommandDoes : Prop :=
  ∀ (c : Instr) (s t : State), exec c s = .next t →
    (∀ i, (t.slot i).state = .recording → (s.slot i).state ≠ .recording →
      (∃ tag slot, c = .clipStart tag slot) ∧ s.mon.energy.state ≠ .low ∧ s.mon.energy.state ≠ .critical) ∧
    (∀ x, t.path.card.transaction = some x → x.phase = .command →
      (∀ y, s.path.card.transaction = some y → y.phase ≠ .command) →
      s.shockHeld = false ∧
        (x.work = .read → s.path.card.transaction = none → ∃ r rest, s.path.card.reads = r :: rest ∧
          ∀ e ∈ s.path.card.queue, ∀ f, r.fence = some f → 2147483648 ≤ (f - e.seq).toNat))

/-! ### Motion intake (01) -/

/-- DATA_READY_EDGE: ignored in STOPPED; in RUNNING and SILENT it starts a read on a free port and is an overrun on an
occupied one, restarts the silence watch, and out of SILENT removes the reference time (R4 to R7). That the edge out of
SILENT counts as the latest edge is the model's choice (log 31). -/
def Obligations.DataReadyEdgeByState : Prop :=
  ∀ s : State, s.pathUp = true →
    (s.path.intake.state = .stopped → exec .dataReadyEdge s = .next s) ∧
    (s.path.intake.state ≠ .stopped →
      exec .dataReadyEdge s = .next
        { s with
          path.intake.state := .running
          path.intake.port := if s.path.intake.port = .free then
              .sampleRead s.now s.path.intake.active.startAddress s.path.intake.active.order
            else s.path.intake.port
          path.intake.overruns := if s.path.intake.port = .free then s.path.intake.overruns
            else min (s.path.intake.overruns + 1) 4294967295
          path.intake.reference := if s.path.intake.state = .silent then none else s.path.intake.reference
          path.intake.lastEdge := some s.now
          path.intake.silence := some (s.now + 50000) })

/-- The twelve bytes give six signed 16-bit values in either byte order (R6), and conditioning takes the sign, subtracts
the bias and clamps to 32767 of either sign (R9). -/
def Obligations.SampleBytesBecomeRates : Prop :=
  (∀ b : Vector Byte 12,
    assemble .highFirst b = ⟨(b[0] ++ b[1]).toInt, (b[2] ++ b[3]).toInt, (b[4] ++ b[5]).toInt, (b[6] ++ b[7]).toInt,
      (b[8] ++ b[9]).toInt, (b[10] ++ b[11]).toInt⟩ ∧
    assemble .lowFirst b = ⟨(b[1] ++ b[0]).toInt, (b[3] ++ b[2]).toInt, (b[5] ++ b[4]).toInt, (b[7] ++ b[6]).toInt,
      (b[9] ++ b[8]).toInt, (b[11] ++ b[10]).toInt⟩) ∧
  (∀ (raw bias : Int) (sign : Sign),
    condition raw sign bias = max (-32767) (min 32767 ((if sign = .plus then raw else -raw) - bias))) ∧
  ∀ (m : MotionSetup) (r : RawSample),
    conditioned m r = ⟨condition (r.gyro m.axes.yaw) m.signs.yaw m.bias.yaw,
      condition (r.gyro m.axes.pitch) m.signs.pitch m.bias.pitch,
      condition (r.gyro m.axes.roll) m.signs.roll m.bias.roll⟩

/-- SAMPLE_READ_COMPLETE: the port is freed; in STOPPED the sample is discarded (R3), and in SILENT too, which the rules do
not name (log 8, DEDUCED); in RUNNING it is taken in, a read begun before a silence among them (log 36), with its interval, its record, the frame peak, the flags it adds, and
a shock's hold and overlap mark (R8 to R10, R12, R86). The mark integrationDue and the peak of the samples taken in while
the pixel path is IDLE are fields of the model's own (logs 9, 35). -/
def Obligations.SampleIsTakenIn : Prop :=
  ∀ (s : State) (bytes : Vector Byte 12) (stamp : Time) (address : Nat) (order : ByteOrder), s.pathUp = true →
    s.path.intake.port = .sampleRead stamp address order →
    (s.path.intake.state ≠ .running →
      exec (.sampleReadComplete bytes) s = .next { s with path.intake.port := .free }) ∧
    (s.path.intake.state = .running →
      let i := s.path.intake
      let r := assemble order bytes
      let dt := i.reference.map fun t => (stamp - t).toNat
      let gap := dt.any fun d => decide (4000 < d)
      let sum := r.accelX.natAbs + r.accelY.natAbs + r.accelZ.natAbs
      let shock := decide (i.active.threshold ≠ 0 ∧ i.active.threshold < sum)
      let hold := stamp + BitVec.ofNat 32 (1000 * i.active.holdMs)
      exec (.sampleReadComplete bytes) s = .next
        { s with
          path.intake.port := .free
          path.intake.reference := some stamp
          path.intake.gaps := if gap then min (i.gaps + 1) 4294967295 else i.gaps
          path.intake.framePeak := max i.framePeak sum
          path.intake.idlePeak := if s.path.window.path = .idle then max i.idlePeak sum else i.idlePeak
          path.intake.lastSample :=
            some ⟨stamp, dt.map fun d => max 1 (min d 4000), conditioned i.active r, sum⟩
          path.intake.integrationDue := i.reference.isSome
          path.intake.shockHold := if shock then
              some (match i.shockHold with
                | none => hold
                | some d => if before hold d then d else hold)
            else i.shockHold
          path.engine.flags.gap := s.path.engine.flags.gap || gap
          path.engine.flags.clipped := s.path.engine.flags.clipped ||
            decide (r.gyroX = -32768 ∨ r.gyroX = 32767 ∨ r.gyroY = -32768 ∨ r.gyroY = 32767 ∨ r.gyroZ = -32768 ∨
              r.gyroZ = 32767)
          path.engine.flags.shock := s.path.engine.flags.shock || shock
          path.card.transaction := if shock then
              s.path.card.transaction.map fun t => if t.phase = .waitRetry then t else { t with overlap := true }
            else s.path.card.transaction })

/-- The expiry of the silence deadline makes the intake SILENT, counts and notices it; that of the shock hold deadline
ends the hold (R5, R11). -/
def Obligations.SilenceAndShockHoldExpire : Prop :=
  ∀ (s : State) (d : Time), s.pathUp = true → s.nothingEarlier (s.pathLeft d) = true →
    let u := s.elapse (s.pathLeft d)
    (s.path.intake.silence = some d →
      exec .imuSilent s = .next
        ({ u with
          path.intake.state := .silent
          path.intake.silence := none
          path.intake.silentEntries := min (s.path.intake.silentEntries + 1) 4294967295 }.notify
            (.imuSilent u.now s.path.intake.lastEdge))) ∧
    (s.path.intake.shockHold = some d →
      exec .shockHoldExpiry s = .next { u with path.intake.shockHold := none })

/-- IMU WRITE and IMU READ: the three refusals in their order, the transfer that holds the port until its end, and the
reply at the end, with the bytes clocked for a read (R13, R14). -/
def Obligations.PassThroughTransfers : Prop :=
  (∀ (s : State) (tag : Byte) (address count : Nat) (data : List Byte), s.Takes →
    (¬(address ≤ 127 ∧ 1 ≤ data.length ∧ data.length ≤ 8) →
      exec (.imuWrite tag address data) s = .next (s.replied tag .badArg .none)) ∧
    (¬(address ≤ 127 ∧ 1 ≤ count ∧ count ≤ 8) →
      exec (.imuRead tag address count) s = .next (s.replied tag .badArg .none)) ∧
    (address ≤ 127 → 1 ≤ data.length → data.length ≤ 8 →
      (s.path.intake.state ≠ .stopped →
        exec (.imuWrite tag address data) s = .next (s.replied tag .badState .none)) ∧
      (s.path.intake.state = .stopped → s.path.intake.port ≠ .free →
        exec (.imuWrite tag address data) s = .next (s.replied tag .busy .none)) ∧
      (s.path.intake.state = .stopped → s.path.intake.port = .free →
        exec (.imuWrite tag address data) s = .next { s.owing with path.intake.port := .passWrite tag address data })) ∧
    (address ≤ 127 → 1 ≤ count → count ≤ 8 →
      (s.path.intake.state ≠ .stopped →
        exec (.imuRead tag address count) s = .next (s.replied tag .badState .none)) ∧
      (s.path.intake.state = .stopped → s.path.intake.port ≠ .free →
        exec (.imuRead tag address count) s = .next (s.replied tag .busy .none)) ∧
      (s.path.intake.state = .stopped → s.path.intake.port = .free →
        exec (.imuRead tag address count) s = .next { s.owing with path.intake.port := .passRead tag address count }))) ∧
  (∀ (s : State) (tag : Byte) (address : Nat) (data : List Byte), s.pathUp = true →
    s.path.intake.port = .passWrite tag address data →
    exec .imuWriteDone s = .next (({ s with path.intake.port := .free } : State).answered tag .ok .none)) ∧
  ∀ (s : State) (tag : Byte) (address count : Nat) (bytes : List Byte), s.pathUp = true →
    s.path.intake.port = .passRead tag address count → bytes.length = count →
    exec (.imuReadDone bytes) s = .next (({ s with path.intake.port := .free } : State).answered tag .ok (.bytes bytes))

/-! ### Settings and their swap (01, 02, 03) -/

/-- MOTION SETUP, LENS TABLE and LOAD GEOMETRY: an argument outside its range, an axis map that does not use each gyro axis
once, a table that does not begin at 0 or decreases, an odd size or margin or bands that do not divide the height, is
refused and leaves every setting as it was; what is taken becomes the pending setting, with a swap at once while the pixel
path is IDLE, and OK; LOAD GEOMETRY is refused BAD_STATE while a slot is RECORDING or CLOSING (R2, R21, R23, R37, R40). That
a lens entry above 65535 is BAD_ARG, judged before TABLE_ORDER, is the model's reading (log 18, DEDUCED): the first check of
R23 names the axis and D alone. -/
def Obligations.SettingsBecomePending : Prop :=
  (∀ (s : State) (tag : Byte) (a : MotionArgs), s.Takes →
    (a.enable = none ∨ a.order = none ∨ none ∈ [a.axes.yaw, a.axes.pitch, a.axes.roll] ∨
        none ∈ [a.signs.yaw, a.signs.pitch, a.signs.roll] →
      exec (.motionSetup tag a) s = .next (s.replied tag .badArg .none)) ∧
    ∀ enable order ax ay az sx sy sz, a.enable = some enable → a.order = some order →
      a.axes = ⟨some ax, some ay, some az⟩ → a.signs = ⟨some sx, some sy, some sz⟩ →
      let good := a.startAddress ≤ 127 ∧ (ax ≠ ay ∧ ay ≠ az ∧ ax ≠ az) ∧
        (∀ b ∈ [a.bias.yaw, a.bias.pitch, a.bias.roll], -32768 ≤ b ∧ b ≤ 32767) ∧ a.threshold ≤ 98304 ∧
        1 ≤ a.holdMs ∧ a.holdMs ≤ 255 ∧ (∀ k ∈ [a.rate.yaw, a.rate.pitch, a.rate.roll], 1 ≤ k ∧ k ≤ 65535) ∧
        (∀ k ∈ [a.leak.yaw, a.leak.pitch, a.leak.roll], k ≤ 4095) ∧
        ∀ k ∈ [a.limit.yaw, a.limit.pitch, a.limit.roll], 1000 ≤ k ∧ k ≤ 2000000
      (¬good → exec (.motionSetup tag a) s = .next (s.replied tag .badArg .none)) ∧
      (good →
        let u : State :=
          { s with
            path.intake.pending := some ⟨enable, a.startAddress, order, ⟨ax, ay, az⟩, ⟨sx, sy, sz⟩, a.bias, a.threshold,
              a.holdMs, a.rate, a.leak, a.limit⟩ }
        (s.path.window.path ≠ .idle → exec (.motionSetup tag a) s = .next (u.replied tag .ok .none)) ∧
        (s.path.window.path = .idle → exec (.motionSetup tag a) s = .next (u.swap.replied tag .ok .none)))) ∧
  (∀ (s : State) (tag : Byte) (axis : Option LensAxis) (spacing : Nat) (entries : Vector Nat 17), s.Takes →
    let good := 256 ≤ spacing ∧ spacing ≤ 65535 ∧ ∀ i : Fin 17, entries[i] ≤ 65535
    let rises := entries[0] = 0 ∧ ∀ i : Fin 16, entries[i.val] ≤ entries[i.val + 1]
    (axis = none ∨ ¬good → exec (.lensTable tag axis spacing entries) s = .next (s.replied tag .badArg .none)) ∧
    ∀ a, axis = some a → good →
      (¬rises → exec (.lensTable tag axis spacing entries) s = .next (s.replied tag .tableOrder .none)) ∧
      (rises →
        let u : State := match a with
          | .h => { s with path.engine.pendingH := some ⟨spacing, entries⟩ }
          | .v => { s with path.engine.pendingV := some ⟨spacing, entries⟩ }
        (s.path.window.path ≠ .idle →
          exec (.lensTable tag axis spacing entries) s = .next (u.replied tag .ok .none)) ∧
        (s.path.window.path = .idle →
          exec (.lensTable tag axis spacing entries) s = .next (u.swap.replied tag .ok .none)))) ∧
  ∀ (s : State) (tag : Byte) (g : Geometry), s.Takes →
    let good := 64 ≤ g.sensorW ∧ g.sensorW ≤ 8192 ∧ g.sensorW % 2 = 0 ∧ 16 ≤ g.sensorH ∧ g.sensorH ≤ 8192 ∧
      g.sensorH % 2 = 0 ∧ 64 ≤ g.w ∧ g.w ≤ g.sensorW ∧ (g.sensorW - g.w) % 2 = 0 ∧ 16 ≤ g.h ∧ g.h ≤ g.sensorH ∧
      (g.sensorH - g.h) % 2 = 0 ∧ 1 ≤ g.bands ∧ g.bands ≤ 16 ∧ g.h % g.bands = 0 ∧ 20 ≤ g.watchMs ∧ g.watchMs ≤ 2550
    let busy := ∃ i, (s.slot i).state = .recording ∨ (s.slot i).state = .closing
    (¬good → exec (.loadGeometry tag g) s = .next (s.replied tag .badArg .none)) ∧
    (good → busy → exec (.loadGeometry tag g) s = .next (s.replied tag .badState .none)) ∧
    (good → ¬busy →
      let u : State := { s with path.window.pending := some g }
      (s.path.window.path ≠ .idle → exec (.loadGeometry tag g) s = .next (u.replied tag .ok .none)) ∧
      (s.path.window.path = .idle → exec (.loadGeometry tag g) s = .next (u.swap.replied tag .ok .none)))

/-- The swap: nothing without a setting that can be taken; otherwise every pending setting that can be taken becomes active,
a geometry only while no slot is RECORDING or CLOSING, and the generation steps by one; a motion setup moves the intake
between its states and clamps the shake to its limits, adding EDGE when that changes one (R3, R22, R24, R40, R41). -/
def Obligations.SwapTakesEveryPendingSetting : Prop :=
  ∀ s : State,
    let held := s.path.window.pending.isNone || s.clipBusy
    let some_ := !held || s.path.intake.pending.isSome || s.path.engine.pendingH.isSome || s.path.engine.pendingV.isSome
    (some_ = false → s.swap = s) ∧
    (some_ = true →
      s.swap.path.window =
        { s.path.window with
          geometry := if held then s.path.window.geometry else s.path.window.pending
          pending := if held then s.path.window.pending else none
          generation := s.path.window.generation + 1 } ∧
      s.swap.path.engine.lensH = (s.path.engine.pendingH.or s.path.engine.lensH) ∧
      s.swap.path.engine.lensV = (s.path.engine.pendingV.or s.path.engine.lensV) ∧
      s.swap.path.engine.pendingH = none ∧ s.swap.path.engine.pendingV = none ∧
      s.swap.path.engine.carry = s.path.engine.carry ∧ s.swap.path.engine.mode = s.path.engine.mode ∧
      s.swap.path.engine.modeRequest = s.path.engine.modeRequest ∧
      s.swap.path.engine.recentrePending = s.path.engine.recentrePending ∧
      s.swap.path.slots = s.path.slots ∧ s.swap.path.card = s.path.card ∧ s.swap.path.link = s.path.link ∧
      s.swap.mon = s.mon ∧
      (s.path.intake.pending = none →
        s.swap.path.intake = s.path.intake ∧ s.swap.path.engine.shake = s.path.engine.shake ∧
          s.swap.path.engine.flags = s.path.engine.flags) ∧
      ∀ m, s.path.intake.pending = some m →
        (s.swap.path.intake =
          { s.path.intake with
            active := m
            pending := none
            state := if m.enable then (if s.path.intake.state = .stopped then .running else s.path.intake.state)
              else .stopped
            reference := if m.enable = true ∧ s.path.intake.state ≠ .stopped then s.path.intake.reference
              else if m.enable = true ∨ s.path.intake.state ≠ .stopped then none else s.path.intake.reference
            silence := if m.enable then
                (if s.path.intake.state = .stopped then some (s.now + 50000) else s.path.intake.silence)
              else if s.path.intake.state = .stopped then s.path.intake.silence else none
            lastEdge := if m.enable = true ∧ s.path.intake.state = .stopped then none else s.path.intake.lastEdge }) ∧
        s.swap.path.engine.shake =
          ⟨heldWithin s.path.engine.shake.yaw m.limit.yaw, heldWithin s.path.engine.shake.pitch m.limit.pitch,
            heldWithin s.path.engine.shake.roll m.limit.roll⟩ ∧
        s.swap.path.engine.flags =
          { s.path.engine.flags with
            edge := s.path.engine.flags.edge || decide (s.swap.path.engine.shake ≠ s.path.engine.shake) })

/-! ### Steadying (02) -/

/-- The increment of an axis and its carry are floor and remainder of g × K × Δt + c by 16,000,000, the carry unmoved by
leak and clamps and cleared by a recentre and a reset, and a run of samples passes on the exact sum (R18). -/
def Obligations.IncrementIsExact : Prop :=
  (∀ (g c : Int) (k dt : Nat),
    increment g k dt c = ((g * k * dt + c) / 16000000, (g * k * dt + c) % 16000000) ∧
    0 ≤ (increment g k dt c).2 ∧ (increment g k dt c).2 ≤ 15999999) ∧
  (∀ (k : Nat) (samples : List (Int × Nat)) (c : Int),
    (runIncrements k samples c).1 * 16000000 + (runIncrements k samples c).2 =
      (samples.map fun x => x.1 * (k : Int) * (x.2 : Int)).sum + c) ∧
  (∀ (k a limit dt : Nat) (g shake c : Int), (integrateAxis k a limit g dt shake c).2.1 = (increment g k dt c).2) ∧
  (∀ (e : Engine) (limit : PerAxis Nat), (e.clampToLimits limit).carry = e.carry) ∧
  (∀ e : Engine, e.recentre.carry = ⟨0, 0, 0⟩) ∧
  ∀ (s : State) (cause : ResetCause), (s.beginPathReset cause).path.engine.carry = ⟨0, 0, 0⟩

/-- SAMPLE_INTEGRATION: each axis takes its increment, the leak of the shake as it stood and the clamp to its limit, with
EDGE when the clamp applies; nothing else changes (R17 to R20). A sample without an interval, or integrated already, leaves
the model's own mark integrationDue clear (log 9, DESIGN CHOICE), and then nothing is integrated. -/
def Obligations.SampleIsIntegrated : Prop :=
  ∀ s : State, s.pathUp = true →
    (s.path.intake.integrationDue = false → exec .sampleIntegration s = .next s) ∧
    ∀ (stamp : Time) (dt sum : Nat) (g : PerAxis Int), s.path.intake.integrationDue = true →
      s.path.intake.lastSample = some ⟨stamp, some dt, g, sum⟩ →
      let m := s.path.intake.active
      let e := s.path.engine
      let y := axisSum m.rate.yaw m.leak.yaw m.limit.yaw g.yaw dt e.shake.yaw e.carry.yaw
      let p := axisSum m.rate.pitch m.leak.pitch m.limit.pitch g.pitch dt e.shake.pitch e.carry.pitch
      let r := axisSum m.rate.roll m.leak.roll m.limit.roll g.roll dt e.shake.roll e.carry.roll
      exec .sampleIntegration s = .next
        { s with
          path.intake.integrationDue := false
          path.engine.shake := ⟨heldWithin y m.limit.yaw, heldWithin p m.limit.pitch, heldWithin r m.limit.roll⟩
          path.engine.carry :=
            ⟨(g.yaw * m.rate.yaw * dt + e.carry.yaw) % 16000000, (g.pitch * m.rate.pitch * dt + e.carry.pitch) % 16000000,
              (g.roll * m.rate.roll * dt + e.carry.roll) % 16000000⟩
          path.engine.flags.edge := e.flags.edge ||
            decide (m.limit.yaw < y.natAbs ∨ m.limit.pitch < p.natAbs ∨ m.limit.roll < r.natAbs) }

/-- The lens mapping: interpolated between entries and held beyond the last, rounded half away from zero, an odd function,
never smaller for a larger magnitude, and at most 4096 pixels (R25). -/
def Obligations.LensMappingIsOddAndMonotone : Prop :=
  ∀ t : LensTable, 0 < t.spacing → nonDecreasing t.entries.toList = true →
    (∀ n : Nat, 16 * t.spacing ≤ n → t.sixteenths n = t.entries[16]) ∧
    (∀ (k : Fin 16) (j : Nat), j < t.spacing →
      t.sixteenths (k * t.spacing + j) =
        t.entries[k.val] + (t.entries[k.val + 1] - t.entries[k.val]) * j / t.spacing) ∧
    (∀ s : Int, 0 < s → t.displacement s = ((t.sixteenths s.natAbs + 8) / 16 : Nat)) ∧ t.displacement 0 = 0 ∧
    (∀ s : Int, t.displacement (-s) = -t.displacement s) ∧
    (∀ a b : Nat, a ≤ b → t.displacement a ≤ t.displacement b) ∧
    ((∀ n ∈ t.entries.toList, n ≤ 65535) → ∀ s : Int, (t.displacement s).natAbs ≤ 4096)

/-- STEADY MODE and RECENTER: their refusals, their effect at once while IDLE, and the request or mark they leave while a
frame runs or between frames (R32, R33, R35). -/
def Obligations.SteadyModeAndRecenter : Prop :=
  ∀ (s : State) (tag : Byte), s.Takes →
    exec (.steadyMode tag none) s = .next (s.replied tag .badArg .none) ∧
    (s.path.window.geometry = none ∨ s.path.engine.lensH = none ∨ s.path.engine.lensV = none →
      exec (.steadyMode tag (some .on)) s = .next (s.replied tag .badState .none)) ∧
    (∀ m, m = .off ∨ (s.path.window.geometry.isSome = true ∧ s.path.engine.lensH.isSome = true ∧
        s.path.engine.lensV.isSome = true) →
      (s.path.window.path = .idle → exec (.steadyMode tag (some m)) s = .next
        ({ s with path.engine.mode := m, path.engine.modeRequest := none }.replied tag .ok .none)) ∧
      (s.path.window.path ≠ .idle → exec (.steadyMode tag (some m)) s = .next
        ({ s with path.engine.modeRequest := some m }.replied tag .ok .none))) ∧
    (s.path.window.path = .idle → exec (.recenter tag) s = .next
      ({ s with
        path.engine.shake := ⟨0, 0, 0⟩
        path.engine.carry := ⟨0, 0, 0⟩
        path.engine.recentrePending := false }.replied tag .ok .none)) ∧
    (s.path.window.path ≠ .idle → exec (.recenter tag) s = .next
      ({ s with path.engine.recentrePending := true }.replied tag .ok .none))

/-- The engine at a frame start: recentre, then mode request, then staleness, then the origin, from the margin in OFF mode
and from the shake through the lens tables in ON mode, held inside the sensor with EDGE where that changes it; and at a
band start: staleness and the column's clamp alone. The shake is stale unless the intake is RUNNING with a last sample at
most 4000 µs old (R26, R27, R29, R31, R33, R34). -/
def Obligations.FrameStartPlacesTheWindow : Prop :=
  (∀ (e : Engine) (g : Geometry) (stale : Bool),
    let f := e.frameStart g stale
    let mx := (g.sensorW - g.w) / 2
    let my := (g.sensorH - g.h) / 2
    f.recentrePending = false ∧ f.modeRequest = none ∧ f.mode = e.modeRequest.getD e.mode ∧
    f.shake = (if e.recentrePending then ⟨0, 0, 0⟩ else e.shake) ∧
    f.carry = (if e.recentrePending then ⟨0, 0, 0⟩ else e.carry) ∧
    f.lensH = e.lensH ∧ f.lensV = e.lensV ∧ f.pendingH = e.pendingH ∧ f.pendingV = e.pendingV ∧
    f.flags.stale = (e.flags.stale || stale) ∧ f.flags.bypass = (e.flags.bypass || decide (f.mode = .off)) ∧
    f.flags.clipped = e.flags.clipped ∧ f.flags.gap = e.flags.gap ∧ f.flags.shock = e.flags.shock ∧
    (f.mode = .off → (f.column g).1 = mx ∧ (f.row g).1 = my ∧ f.flags.edge = e.flags.edge) ∧
    (f.mode = .on →
      ((f.column g).1 : Int) = max 0 (min (2 * (mx : Int)) ((mx : Int) - displacementThrough f.lensH f.shake.yaw)) ∧
      ((f.row g).1 : Int) = max 0 (min (2 * (my : Int)) ((my : Int) - displacementThrough f.lensV f.shake.pitch)) ∧
      f.flags.edge = (e.flags.edge ||
        decide (mx < (displacementThrough f.lensH f.shake.yaw).natAbs ∨
          my < (displacementThrough f.lensV f.shake.pitch).natAbs))) ∧
    e.bandStart g stale =
      { e with
        flags.stale := e.flags.stale || stale
        flags.edge := e.flags.edge ||
          decide (e.mode = .on ∧ mx < (displacementThrough e.lensH e.shake.yaw).natAbs) }) ∧
  ∀ (i : Intake) (at_ : Time), i.stale at_ = false ↔
    i.state = .running ∧ ∃ x, i.lastSample = some x ∧ (at_ - x.stamp).toNat ≤ 4000

/-! ### Frame window (03) -/

/-- FRAME_START_UNIT: with the geometry unset and none to swap in, a discarded frame; otherwise an open frame is closed
short, pending settings are swapped in, and the next frame begins, with its number, start, origin, header, watch and frame
peak, the shake judged stale or not at its start (R29), the pixel path IN_FRAME (R39, R42, R43). Between step 5 of R42, which
sets the frame peak to 0, and R12 and R39, by which samples taken in while IDLE count for the frame that starts, the model
takes the latter for a frame that starts from IDLE (log 35, DEDUCED). -/
def Obligations.FrameStartBeginsTheNextFrame : Prop :=
  ∀ s : State, s.pathUp = true →
    (s.path.window.geometry = none → s.swap.path.window.geometry = none →
      exec .frameStartUnit s = .next
        { s.swap with
          path.window.unsetFrames := min (s.path.window.unsetFrames + 1) 4294967295
          path.window.discardMarker := true }) ∧
    ∀ g,
      let u := (if s.path.window.geometry = none then s.swap else s).closeShort.swap
      u.path.window.geometry = some g → (s.path.window.geometry = none → s.swap.path.window.geometry ≠ none) →
      let i := u.path.intake
      let stale := decide (i.state ≠ .running) || (match i.lastSample with
        | none => true
        | some x => decide (4000 < (s.now - x.stamp).toNat))
      let e := u.path.engine.frameStart g stale
      exec .frameStartUnit s = .next (State.chooseUnit
        { u with
          path.intake.framePeak := if s.path.window.path = .idle then i.idlePeak else 0
          path.intake.idlePeak := 0
          path.engine := e
          path.window.frameCounter := s.path.window.frameCounter + 1
          path.window.lastBegun := some s.path.window.frameCounter
          path.window.frame := some
            { number := s.path.window.frameCounter, start := s.now, geometry := g, x0 := (e.column g).1,
              y0 := (e.row g).1, bands := (Vector.replicate 16 0).set 0 (e.column g).1, rows := 0, lines := 0,
              shortLine := false, shake := e.shake }
          path.window.watch := some (s.now + BitVec.ofNat 32 (1000 * g.watchMs))
          path.window.path := .inFrame
          path.window.discardMarker := false
          path.link.stream := u.path.link.stream ++
            [.header ⟨s.path.window.frameCounter, s.now, (e.column g).1, (e.row g).1, g.w, g.h,
              u.path.window.generation, g.bands⟩] })

/-- LINE_UNIT: a row of the open frame outside the window only restarts the watch; inside it, a band's first row takes the
band's column from the shake, adds STALE where that is stale and EDGE where the clamp applies, and the line is cut at its
band's column and handed to the frame stream, or dropped where that holds 4 lines; between frames and without the discard
marker a line is an orphan (R27, R29, R38, R39, R45 to R48). A cut line that is dropped sets SHORT_LINE too (log 14,
DEDUCED). -/
def Obligations.LineUnitPassesOneRow : Prop :=
  ∀ (s : State) (pixels : List Pixel), s.pathUp = true →
    (s.path.window.path = .between ∨ (s.path.window.path = .idle ∧ s.path.window.discardMarker = false) →
      exec (.lineUnit pixels) s = .next
        { s with path.window.orphanLines := min (s.path.window.orphanLines + 1) 4294967295 }) ∧
    (s.path.window.path = .idle → s.path.window.discardMarker = true → exec (.lineUnit pixels) s = .next s) ∧
    ∀ f g, s.path.window.path = .inFrame → s.path.window.frame = some f → s.path.window.geometry = some g →
      let watch := some (s.now + BitVec.ofNat 32 (1000 * g.watchMs))
      let rows := min (f.rows + 1) 4294967295
      (f.rows < f.y0 ∨ f.y0 + f.geometry.h ≤ f.rows →
        exec (.lineUnit pixels) s = .next
          { s with path.window.frame := some { f with rows := rows }, path.window.watch := watch }) ∧
      (f.y0 ≤ f.rows → f.rows < f.y0 + f.geometry.h →
        let i := f.rows - f.y0
        let rowsOfBand := f.geometry.h / f.geometry.bands
        let b := i / rowsOfBand
        let starts := i % rowsOfBand = 0 ∧ 1 ≤ b
        let k := s.path.engine
        let mx := (f.geometry.sensorW - f.geometry.w) / 2
        let shift := displacementThrough k.lensH k.shake.yaw
        let column := if k.mode = .off then mx else (max 0 (min (2 * (mx : Int)) ((mx : Int) - shift))).toNat
        let stale := decide (s.path.intake.state ≠ .running) || (match s.path.intake.lastSample with
          | none => true
          | some x => decide (4000 < (s.now - x.stamp).toNat))
        let bands := if starts then f.bands.setIfInBounds b column else f.bands
        let cut := cutLine f.geometry.sensorW f.geometry.w (bands.toList.getD b 0) pixels
        let engine := if starts then
            { k with
              flags.stale := k.flags.stale || stale
              flags.edge := k.flags.edge || decide (k.mode = .on ∧ mx < shift.natAbs) }
          else k
        (linesHeld s.path.link.stream < 4 →
          exec (.lineUnit pixels) s = .next (State.chooseUnit
            { s with
              path.engine := engine
              path.window.frame := some
                { f with rows := rows, lines := f.lines + 1, shortLine := f.shortLine || cut.2, bands := bands }
              path.window.watch := watch
              path.link.stream := s.path.link.stream ++ [.line i cut.1] })) ∧
        (4 ≤ linesHeld s.path.link.stream →
          exec (.lineUnit pixels) s = .next
            { s with
              path.engine := engine
              path.window.frame := some { f with rows := rows, shortLine := f.shortLine || cut.2, bands := bands }
              path.window.watch := watch }))

/-- A passed line has exactly w pixels: as received where the line reaches them, and after its end the last usable pixel it
carried, or 0 where it carried none; it is short when it does not reach the end of the window (R47). -/
def Obligations.CutLineHasEveryPixel : Prop :=
  ∀ (sensorW w column : Nat) (pixels : List Pixel),
    let usable := min pixels.length sensorW
    (cutLine sensorW w column pixels).1.length = w ∧
    (cutLine sensorW w column pixels).2 = decide (usable < column + w) ∧
    ∀ j, j < w →
      (cutLine sensorW w column pixels).1[j]? =
        if column + j < usable then pixels[column + j]?
        else if usable = 0 then some 0 else pixels[usable - 1]?

/-- FRAME_END_UNIT: it closes the open frame with its record, the frame flags taken and emptied, SHORT_FRAME counted where
lines are missing, the record handed to the frame stream and offered to every slot, and the pixel path BETWEEN; elsewhere
it is discarded, clearing the discard marker in IDLE (R38, R39, R48 to R50). A record offered is taken by the slots whose
clip covers it, notes the first record timestamp, joins the FILLING buffer or a FREE one, or is lost at arrival; a full
buffer is queued at the next track block, or its real records are lost where none is left (R97 to R99, R102). -/
def Obligations.FrameEndClosesTheFrame : Prop :=
  (∀ s : State, s.pathUp = true →
    (s.path.window.path = .between → exec .frameEndUnit s = .next s) ∧
    (s.path.window.path = .idle → exec .frameEndUnit s = .next { s with path.window.discardMarker := false }) ∧
    ∀ f g, s.path.window.path = .inFrame → s.path.window.frame = some f → s.path.window.geometry = some g →
      let short := decide (f.lines < f.geometry.h)
      let record : FrameRecord :=
        { number := f.number, start := f.start, x0 := f.x0, y0 := f.y0, lines := f.lines,
          bandCount := f.geometry.bands, flags := ⟨s.path.engine.flags, f.shortLine, short⟩, shake := f.shake,
          peak := s.path.intake.framePeak, bands := f.bands }
      ∃ t, exec .frameEndUnit s = .next t ∧
        t.path.window =
          { s.path.window with
            frame := none
            path := .between
            watch := some (s.now + BitVec.ofNat 32 (1000 * g.watchMs))
            shortFrames := if short then min (s.path.window.shortFrames + 1) 4294967295 else s.path.window.shortFrames } ∧
        t.path.engine = { s.path.engine with flags := FrameFlags.empty } ∧
        t.path.link = (State.chooseUnit
          { s with path.link.stream := s.path.link.stream ++ [.trailer record] }).path.link ∧
        t.path.slots = (s.takeRecord record).path.slots ∧ t.path.card = (s.takeRecord record).path.card ∧
        t.path.intake = s.path.intake ∧ t.mon = s.mon) ∧
  ∀ (s : State) (r : FrameRecord),
    s.takeRecord r =
      State.offerRecord r (State.offerRecord r (State.offerRecord r (State.offerRecord r s 0) 1) 2) 3 ∧
    ∀ i : Fin 4,
      let sl := s.slot i
      let covered := (sl.state = .recording ∨ sl.state = .closing) ∧ (sl.step = .none ∨ sl.step = .owed) ∧
        ∃ start, sl.startFrame = some start ∧ (r.number - start).toNat < 2147483648 ∧
          ∀ stop, sl.stopFrame = some stop → (r.number - start).toNat < (stop - start).toNat
      let stamp := if sl.startFrame = some r.number then some r.start else sl.firstStamp
      let put := fun x : Slot => { s with path.slots := s.path.slots.set i x }
      (¬covered → State.offerRecord r s i = s) ∧
      (covered → sl.track = false → State.offerRecord r s i = put { sl with firstStamp := stamp }) ∧
      (covered → sl.track = true →
        let next := sl.nextTrack.map fun n => n + 1
        let n : Slot :=
          { sl with
            firstStamp := stamp, nextTrack := next
            step := if sl.step = .owed ∧ next = sl.stopFrame then .pad else sl.step }
        (∀ (b : Fin 2) records, sl.filling = some (b, records) → sl.buffers[b] = .filling records ∧
          let all := records ++ [r]
          (records.length ≠ 7 → State.offerRecord r s i = put { n with buffers := sl.buffers.set b (.filling all) }) ∧
          (records.length = 7 → sl.trackCursor.next = none → State.offerRecord r s i =
            put
              { n with
                buffers := sl.buffers.set b .free
                recordsLost := min (sl.recordsLost + (all.filter fun x => decide (x.bandCount ≠ 0)).length)
                  4294967295 }) ∧
          ∀ block e, records.length = 7 → sl.trackCursor.next = some block →
            sl.trackList[sl.trackCursor.index]? = some e →
            State.offerRecord r s i =
              { put
                  { n with
                    buffers := sl.buffers.set b (.queuedTrack all)
                    trackCursor := if block + 1 < e.start + e.length then ⟨sl.trackCursor.index, some (block + 1)⟩
                      else ⟨sl.trackCursor.index + 1, sl.trackList[sl.trackCursor.index + 1]?.map Extent.start⟩ } with
                path.card.nextSeq := s.path.card.nextSeq + 1
                path.card.queue := s.path.card.queue ++
                  [⟨s.path.card.nextSeq, .slot i .track, block, 1, .buffer b⟩] }) ∧
        ((∀ (b : Fin 2) records, sl.buffers[b] ≠ .filling records) →
          (sl.buffers[0] = .free →
            State.offerRecord r s i = put { n with buffers := sl.buffers.set 0 (.filling [r]) }) ∧
          (sl.buffers[0] ≠ .free → sl.buffers[1] = .free →
            State.offerRecord r s i = put { n with buffers := sl.buffers.set 1 (.filling [r]) }) ∧
          (sl.buffers[0] ≠ .free → sl.buffers[1] ≠ .free →
            State.offerRecord r s i = put { n with recordsLost := min (sl.recordsLost + 1) 4294967295 })) ∧
        (sl.filling = none ↔ ∀ (b : Fin 2) records, sl.buffers[b] ≠ .filling records))

/-- SENSOR_STALL: the open frame, if any, is closed short; the stall is counted and noticed, the watch removed, the pixel
path IDLE, and the stop frame of every CLOSING slot at step 1 that lies after the frame counter is cut to it, one at or
before it left, and step 1 judged again; every other slot is left as it was (R53, R54, R103). -/
def Obligations.SensorStallClosesAndCuts : Prop :=
  ∀ (s : State) (d : Time), s.pathUp = true → s.path.window.watch = some d →
    s.nothingEarlier (s.pathLeft d) = true →
    let u := (s.elapse (s.pathLeft d)).closeShort
    ∃ t, exec .sensorStall s = .next t ∧
      t.path.window =
        { u.path.window with
          watch := none, path := .idle, stalls := min (s.path.window.stalls + 1) 4294967295 } ∧
      t.path.window.frame = none ∧ t.path.window.frameCounter = s.path.window.frameCounter ∧
      (∀ i, t.slot i = (u.slot i).cutOwed s.path.window.frameCounter) ∧
      (∀ i,
        let sl := u.slot i
        let counter := s.path.window.frameCounter
        (sl.state ≠ .closing ∨ sl.step ≠ .owed → t.slot i = sl) ∧
        ∀ start stop, sl.state = .closing → sl.step = .owed → sl.startFrame = some start → sl.stopFrame = some stop →
          let cut := if (counter - start).toNat < (stop - start).toNat then counter else stop
          t.slot i =
            { sl with stopFrame := some cut, step := if sl.nextTrack = some cut then .pad else .owed }) ∧
      t.path.intake = u.path.intake ∧ t.path.engine = u.path.engine ∧ t.path.card = u.path.card ∧ t.mon = u.mon ∧
      t.path.link =
        (u.notify (.sensorStall s.path.window.path s.path.window.lastBegun
          (s.path.window.frame.map OpenFrame.lines) (s.path.window.frame.map OpenFrame.rows)
          s.path.window.frameCounter (min (s.path.window.stalls + 1) 4294967295))).path.link ∧
      (∀ f, s.path.window.frame = some f →
        u.path.link.stream = s.path.link.stream ++
          [.trailer (f.record s.path.engine.flags true s.path.intake.framePeak)] ∧
        u.path.window.shortFrames = min (s.path.window.shortFrames + 1) 4294967295 ∧
        u.path.engine.flags = FrameFlags.empty)

/-! ### Clip slots and extents (04) -/

/-- CLIP DROP: BAD_ARG for an index outside 0 to 3, BAD_STATE for a slot that is not ARMED; an ARMED slot becomes FREE,
its clip number and extents given up, with the reply OK, no notice and nothing said to the energy monitor; and either
order of a drop and an emergency seal, which finds the slot FREE, or has freed it with CLIP DROPPED (R64, R108). A FREE slot
has every field emptied (R56); that its track setting is off, its low-water 0 and its SPACE
LOW mark not armed is the model's choice (log 26). -/
def Obligations.ClipDropFreesAnArmedSlot : Prop :=
  ∀ (s : State) (tag : Byte), s.Takes →
    let freed : Slot :=
      { state := .free, clip := 0, track := false, lowWater := 0, spaceLowArmed := false, startFrame := none
        stopFrame := none, video := [], videoCursor := ⟨0, none⟩, trackList := [], accepted := 0, written := 0
        gaps := 0, faults := 0, firstFault := none, recordsWritten := 0, recordsLost := 0, cause := none
        buffers := #v[.free, .free], nextTrack := none, trackCursor := ⟨0, none⟩, firstStamp := none, step := .none }
    (∀ slot, 4 ≤ slot → exec (.clipDrop tag slot) s = .next (s.replied tag .badArg .none)) ∧
    ∀ i : Fin 4,
      ((s.slot i).state ≠ .armed → exec (.clipDrop tag i) s = .next (s.replied tag .badState .none)) ∧
      ((s.slot i).state = .armed →
        let u : State := { s with path.slots := s.path.slots.set i freed }
        exec (.clipDrop tag i) s = .next (u.replied tag .ok .none) ∧ u.sealSlot i = u ∧
        let v := s.sealSlot i
        v = (s.notify (.clipDropped i (s.slot i).clip .power)).freeSlot i ∧ v.slot i = freed ∧
          exec (.clipDrop tag i) v = .next (v.replied tag .badState .none))

/-- CLIP ARM and CLIP START: the refusals of R57 and R61 in their order; an armed slot with its values; a started slot with
its start frame, its retained entry, and SPACE LOW where its space is already below its low-water (R57, R61, R62, R68). A
track setting that is neither ON nor OFF is refused BAD_ARG by the model's choice (log 18), and CLIP ARM drops the
handbacks that an earlier clip of the slot left waiting by the model's choice (log 11). -/
def Obligations.ClipArmAndClipStart : Prop :=
  (∀ (s : State) (tag : Byte) (slot clip : Nat) (track : Option Bool) (lowWater : Option Nat), s.Takes →
    (4 ≤ slot ∨ clip = 0 ∨ 65535 < clip ∨ 65535 < lowWater.getD 256 ∨ track = none →
      exec (.clipArm tag slot clip track lowWater) s = .next (s.replied tag .badArg .none)) ∧
    ∀ (i : Fin 4) (on : Bool), slot = i → track = some on → 1 ≤ clip → clip ≤ 65535 → lowWater.getD 256 ≤ 65535 →
      ((s.slot i).state ≠ .free →
        exec (.clipArm tag slot clip track lowWater) s = .next (s.replied tag .badState .none)) ∧
      ((s.slot i).state = .free →
        ((∃ j, j ≠ i ∧ (s.slot j).state ≠ .free ∧ (s.slot j).clip = clip) →
          exec (.clipArm tag slot clip track lowWater) s = .next (s.replied tag .badArg .none)) ∧
        ((∀ j, j ≠ i → (s.slot j).state ≠ .free → (s.slot j).clip ≠ clip) →
          exec (.clipArm tag slot clip track lowWater) s = .next
            ({ s with
              path.slots := s.path.slots.set i
                { state := .armed, clip := clip, track := on, lowWater := lowWater.getD 256, spaceLowArmed := true
                  startFrame := none, stopFrame := none, video := [], videoCursor := ⟨0, none⟩, trackList := []
                  accepted := 0, written := 0, gaps := 0, faults := 0, firstFault := none, recordsWritten := 0
                  recordsLost := 0, cause := none, buffers := #v[.free, .free], nextTrack := none
                  trackCursor := ⟨0, none⟩, firstStamp := none, step := .none }
              path.card.handbacks := s.path.card.handbacks.filter fun h => decide (h.slot ≠ i) }.replied
                tag .ok .none)))) ∧
  ∀ (s : State) (tag : Byte), s.Takes →
    (∀ slot, 4 ≤ slot → exec (.clipStart tag slot) s = .next (s.replied tag .badArg .none)) ∧
    ∀ i : Fin 4,
      let sl := s.slot i
      let ready := sl.state = .armed ∧ sl.video ≠ [] ∧ sl.trackList ≠ []
      let set := sl.track = false ∨ s.path.window.geometry ≠ none
      let energy := s.mon.energy.state
      (sl.state ≠ .armed → exec (.clipStart tag i) s = .next (s.replied tag .badState .none)) ∧
      (sl.state = .armed → sl.video = [] ∨ sl.trackList = [] →
        exec (.clipStart tag i) s = .next (s.replied tag .noSpace .none)) ∧
      (ready → ¬set ∨ s.path.card.state = .starting →
        exec (.clipStart tag i) s = .next (s.replied tag .badState .none)) ∧
      (ready → set → s.path.card.state ≠ .starting → energy = .low ∨ energy = .critical →
        exec (.clipStart tag i) s = .next (s.replied tag .lowEnergy .none)) ∧
      (ready → set → s.path.card.state ≠ .starting → energy ≠ .low → energy ≠ .critical →
        let counter := s.path.window.frameCounter
        let low := sl.spaceLowArmed && decide (sl.remaining < sl.lowWater)
        let u : State :=
          { s with
            path.slots := s.path.slots.set i
              { sl with
                state := .recording, startFrame := some counter, nextTrack := some counter, firstStamp := none
                spaceLowArmed := sl.spaceLowArmed && !low }
            mon.energy.retained := insertRetained ⟨i, sl.clip, false, 0⟩ s.mon.energy.retained }
        exec (.clipStart tag i) s = .next
          ((if low then u.notify (.spaceLow i sl.clip sl.remaining sl.lowWater) else u).replied tag .ok .none))

/-- EXTENT ADD: the eight checks in their order; an accepted extent joins the end of its stream's list, is taken by a
cursor that stands past the last extent, and adds its length to the remaining video space; the first TRACK extent gives
its first block to the summary (R58 to R60, R65, R68, R99). -/
def Obligations.ExtentAddIsCheckedAndAppended : Prop :=
  (∀ (s : State) (tag : Byte) (slot : Nat) (stream : Option Stream) (start length : Nat), s.Takes →
    (4 ≤ slot ∨ stream = none ∨ length = 0 →
      exec (.extentAdd tag slot stream start length) s = .next (s.replied tag .badArg .none)) ∧
    ∀ (i : Fin 4) (st : Stream), slot = i → stream = some st → 1 ≤ length →
      let sl := s.slot i
      let open_ := sl.state = .armed ∨ sl.state = .recording
      let answers := fun code => exec (.extentAdd tag slot stream start length) s = .next (s.replied tag code .none)
      let becomes := fun sl' : Slot => exec (.extentAdd tag slot stream start length) s = .next
        ({ s with path.slots := s.path.slots.set i sl' }.replied tag .ok .none)
      (¬open_ → answers .badState) ∧
      (open_ → s.path.card.state = .starting → answers .badState) ∧
      (open_ → s.path.card.state = .absent ∨ s.path.card.state = .failed → answers .noCard) ∧
      ∀ blocks, open_ → s.path.card.state = .ready → s.path.card.capacity = some blocks →
        (blocks < start + length → answers .outOfRange) ∧
        (start + length ≤ blocks →
          let clash := (∃ x ∈ s.heldExtents, start < x.start + x.length ∧ x.start < start + length) ∨
            ∃ e ∈ s.path.card.queue, e.owner = .plain ∧ start < e.start + e.count ∧ e.start < start + length
          (clash → answers .overlap) ∧
          (¬clash → st = .video →
            (16 ≤ sl.video.length → answers .noSpace) ∧
            (sl.video.length < 16 →
              let new : Slot :=
                { sl with
                  video := sl.video ++ [⟨start, length⟩]
                  videoCursor := if sl.videoCursor.next = none then ⟨sl.videoCursor.index, some start⟩
                    else sl.videoCursor }
              becomes { new with spaceLowArmed := sl.spaceLowArmed || decide (sl.lowWater ≤ new.remaining) })) ∧
          (¬clash → st = .track →
            let least := if sl.track then 2 else 1
            (least ≤ sl.trackList.length → answers .noSpace) ∧
            (sl.trackList = [] → length < least → answers .badArg) ∧
            (sl.trackList = [] → least ≤ length →
              becomes
                { sl with
                  trackList := [⟨start, length⟩]
                  trackCursor := if 2 ≤ length then ⟨0, some (start + 1)⟩ else ⟨1, none⟩ }) ∧
            (sl.trackList ≠ [] → sl.trackList.length < least →
              becomes
                { sl with
                  trackList := sl.trackList ++ [⟨start, length⟩]
                  trackCursor := if sl.trackCursor.next = none then ⟨sl.trackCursor.index, some start⟩
                    else sl.trackCursor })))) ∧
  ∀ (sl : Slot) (x : Extent),
    (sl.videoCursor.next = none → sl.remaining = 0) ∧
    ((sl.videoCursor.next = none → sl.videoCursor.index = sl.video.length) →
      (sl.videoCursor.next ≠ none → sl.videoCursor.index < sl.video.length) →
      (sl.addVideo x).remaining = sl.remaining + x.length)

/-- The entry of a slot to CLOSING, by CLIP STOP and by the emergency seal: the refusals of R63, and for a taken stop the
stop frame raised to the records taken and cut to the frames begun, the cause, and step 1 judged at once; track off goes
straight to step 2 (R63, R101 to R103, R108). -/
def Obligations.ClipStopAndSealBeginTheClosing : Prop :=
  (∀ (s : State) (tag : Byte) (last : FrameNo), s.Takes →
    (∀ slot, 4 ≤ slot → exec (.clipStop tag slot last) s = .next (s.replied tag .badArg .none)) ∧
    ∀ i : Fin 4,
      ((s.slot i).state ≠ .recording → exec (.clipStop tag i last) s = .next (s.replied tag .badState .none)) ∧
      ∀ start, (s.slot i).state = .recording → (s.slot i).startFrame = some start →
        ((s.path.window.frameCounter - start).toNat + 1024 < (last + 1 - start).toNat →
          exec (.clipStop tag i last) s = .next (s.replied tag .badArg .none)) ∧
        ((last + 1 - start).toNat ≤ (s.path.window.frameCounter - start).toNat + 1024 →
          exec (.clipStop tag i last) s = .next ((s.closeSlot i (last + 1) .stop).replied tag .ok .none))) ∧
  (∀ (s : State) (i : Fin 4), (s.slot i).state = .recording →
    s.sealSlot i = s.closeSlot i s.path.window.frameCounter .power) ∧
  (∀ (s : State) (i : Fin 4) (stop : FrameNo) (cause : SealCause),
    s.closeSlot i stop cause =
      { s with
        path.slots := s.path.slots.set i
          ((s.slot i).close stop cause (decide (s.path.window.path = .idle)) s.path.window.frameCounter)
        mon.energy.retained := s.mon.energy.retained.map fun c => if c.slot = i then { c with closing := true } else c }) ∧
  ∀ (sl : Slot) (stop counter : FrameNo) (cause : SealCause) (idle : Bool),
    (sl.track = false → sl.close stop cause idle counter =
      { sl with state := .closing, stopFrame := some stop, cause := some cause, step := .pad }) ∧
    ∀ start next, sl.track = true → sl.startFrame = some start → sl.nextTrack = some next →
      let raised := if (stop - start).toNat < (next - start).toNat then next else stop
      let cut := if idle = true ∧ (counter - start).toNat < (raised - start).toNat then counter else raised
      sl.close stop cause idle counter =
        { sl with
          state := .closing, stopFrame := some cut, cause := some cause
          step := if next = cut then .pad else .owed }

/-- CLIP DATA: a bad slot or count is a header error; every other packet is counted received and judged in the order of
R66, a discarded one released, counted a gap and noticed, a placed one laid whole from the cursor in one VIDEO entry for
each extent touched, in block order: the first piece at the cursor, each later one at the first block of the next extent, all
but the last up to the end of their extents, and the cursor after the last; so its n blocks leave the remaining space, with
SPACE LOW after (R65 to R68, R70, R75, R159, R160). -/
def Obligations.ClipDataIsPlacedWholeOrDiscarded : Prop :=
  (∀ s : State, s.pathUp = true →
    (∀ slot n payload, 4 ≤ slot ∨ n = 0 ∨ 16 < n → exec (.clipData slot n payload) s = exec .headerError s) ∧
    ∀ (i : Fin 4) (n : Nat) (payload : Option (List Block)), 1 ≤ n → n ≤ 16 →
      let sl := s.slot i
      let r : State := { s with path.link.received := s.path.link.received + BitVec.ofNat 16 n }
      let discarded := fun (u : State) (cause : DiscardCause) =>
        let gaps := min (sl.gaps + 1) 4294967295
        exec (.clipData i n payload) s = .next
          ((State.chooseUnit { u with
            path.slots := if sl.state = SlotState.free then s.path.slots else s.path.slots.set i { sl with gaps := gaps }
            path.link.released := s.path.link.released + BitVec.ofNat 16 n
            path.link.creditPending := true }).notify
              (.dataDiscarded (some i) none n cause (if sl.state = SlotState.free then none else some gaps)))
      ((∀ blocks, payload = some blocks → blocks.length ≠ n) →
        discarded { r with path.link.payloadErrors := min (s.path.link.payloadErrors + 1) 4294967295 } .link) ∧
      ∀ blocks, payload = some blocks → blocks.length = n →
        (sl.state ≠ .recording → discarded r .badState) ∧
        (sl.state = .recording → sl.remaining < n → discarded r .noSpace) ∧
        (sl.state = .recording → n ≤ sl.remaining →
          let free := 128 - heldBlocks s.path.card.queue
          let entries := min (56 - (s.path.card.queue.filter Entry.fromPacket).length) (64 - s.path.card.queue.length)
          (free < n → discarded r .overrun) ∧
          (n ≤ free → entries < (sl.lay blocks).1.length → discarded r .queueFull) ∧
          (n ≤ free → (sl.lay blocks).1.length ≤ entries →
            let new : Slot :=
              { sl with videoCursor := (sl.lay blocks).2, accepted := min (sl.accepted + n) 4294967295 }
            let low := sl.spaceLowArmed && decide (new.remaining < sl.lowWater)
            let u : State :=
              { r with
                path.slots := s.path.slots.set i { new with spaceLowArmed := sl.spaceLowArmed && !low }
                path.card.nextSeq := s.path.card.nextSeq + BitVec.ofNat 32 (sl.lay blocks).1.length
                path.card.queue := s.path.card.queue ++ (sl.lay blocks).1.zipIdx.map fun p =>
                  ⟨s.path.card.nextSeq + BitVec.ofNat 32 p.2, .slot i .video, p.1.1, p.1.2.length, .blocks p.1.2⟩ }
            exec (.clipData i n payload) s = .next
              (if low then u.notify (.spaceLow i sl.clip new.remaining sl.lowWater) else u)))) ∧
  ∀ (sl : Slot) (blocks : List Block) (b : Nat) (e : Extent),
    sl.videoCursor.next = some b → sl.video[sl.videoCursor.index]? = some e → e.start ≤ b → b < e.start + e.length →
    (∀ x ∈ sl.video, 1 ≤ x.length) → 1 ≤ blocks.length → blocks.length ≤ sl.remaining →
    let laid := sl.lay blocks
    let j := sl.videoCursor.index
    (laid.1.map Prod.snd).flatten = blocks ∧ 1 ≤ laid.1.length ∧
    (∀ k p, laid.1[k]? = some p → ∃ x, sl.video[j + k]? = some x ∧ 1 ≤ p.2.length ∧
      p.1 = (if k = 0 then b else x.start) ∧ p.1 + p.2.length ≤ x.start + x.length ∧
      (k + 1 < laid.1.length → p.1 + p.2.length = x.start + x.length) ∧
      (k + 1 = laid.1.length →
        laid.2 = if p.1 + p.2.length < x.start + x.length then ⟨j + k, some (p.1 + p.2.length)⟩
          else ⟨j + k + 1, sl.video[j + k + 1]?.map Extent.start⟩)) ∧
    { sl with videoCursor := laid.2 }.remaining + blocks.length = sl.remaining

/-- PLAIN WRITE: a count outside 1 to 16 is a header error; every other packet is counted received and judged in the order
of R69, a discarded one released and noticed without a gap, an admitted one joining the tail of the queue as one PLAIN
entry (R69, R70, R75, R76, R159, R160). -/
def Obligations.PlainWriteIsAdmittedOrDiscarded : Prop :=
  ∀ s : State, s.pathUp = true →
    (∀ start n payload, n = 0 ∨ 16 < n → exec (.plainWrite start n payload) s = exec .headerError s) ∧
    ∀ (start n : Nat) (payload : Option (List Block)), 1 ≤ n → n ≤ 16 →
      let r : State := { s with path.link.received := s.path.link.received + BitVec.ofNat 16 n }
      let discarded := fun (u : State) (cause : DiscardCause) =>
        exec (.plainWrite start n payload) s = .next
          ((State.chooseUnit { u with
            path.link.released := s.path.link.released + BitVec.ofNat 16 n
            path.link.creditPending := true }).notify (.dataDiscarded none (some start) n cause none))
      ((∀ blocks, payload = some blocks → blocks.length ≠ n) →
        discarded { r with path.link.payloadErrors := min (s.path.link.payloadErrors + 1) 4294967295 } .link) ∧
      ∀ blocks, payload = some blocks → blocks.length = n →
        (s.path.card.state ≠ .ready → discarded r .noCard) ∧
        ∀ capacity, s.path.card.state = .ready → s.path.card.capacity = some capacity →
          (capacity < start + n → discarded r .outOfRange) ∧
          (start + n ≤ capacity →
            let clash := ∃ x ∈ s.heldExtents, start < x.start + x.length ∧ x.start < start + n
            let free := 128 - heldBlocks s.path.card.queue
            let entries := min (56 - (s.path.card.queue.filter Entry.fromPacket).length) (64 - s.path.card.queue.length)
            (clash → discarded r .overlap) ∧ (¬clash → free < n → discarded r .overrun) ∧
            (¬clash → n ≤ free → entries = 0 → discarded r .queueFull) ∧
            (¬clash → n ≤ free → 1 ≤ entries →
              exec (.plainWrite start n payload) s = .next
                { r with
                  path.card.nextSeq := s.path.card.nextSeq + 1
                  path.card.queue := s.path.card.queue ++
                    [⟨s.path.card.nextSeq, .plain, start, n, .blocks blocks⟩] }))

/-! ### Card states (05) -/

/-- Card-detect: in ABSENT a rise sets the debounce deadline 50,000 µs ahead and a fall removes it; in every other state a
fall is a removal at once, and a rise changes only the pin's level. A removal and an entry to FAILED tear down, in this
order: transaction and deadlines dropped, CARD STATE, the queue emptied with its blocks released, credit pending and its
track buffers handed back, the reads not being sent answered NO_CARD, and every slot in use lost with CLIP LOST (R75, R77,
R78, R90, R107, R164). That several NO_CARD replies come in the order of arrival is log 37 (DESIGN CHOICE). -/
def Obligations.CardDetectAndTeardown : Prop :=
  (∀ s : State,
    (s.pathUp = false →
      exec .cardDetectRise s = .next { s with pins.cardDetect := true } ∧
      exec .cardDetectFall s = .next { s with pins.cardDetect := false }) ∧
    (s.pathUp = true → s.path.card.state = .absent →
      exec .cardDetectRise s = .next
        { s with pins.cardDetect := true, path.card.debounce := some (s.now + 50000) } ∧
      exec .cardDetectFall s = .next { s with pins.cardDetect := false, path.card.debounce := none }) ∧
    (s.pathUp = true → s.path.card.state ≠ .absent →
      exec .cardDetectRise s = .next { s with pins.cardDetect := true } ∧
      exec .cardDetectFall s = .next
        ({ s with pins.cardDetect := false, path.card.capacity := none }.teardown .absent .removed .removed))) ∧
  ∀ (s : State) (new : CardState) (cause : CardCause) (loss : LossCause), s.pathUp = true →
    let c := s.path.card
    let t := s.teardown new cause loss
    let sending := ∃ tag b n, c.readBuffer = .sending tag b n
    let lost := slotIndices.filter fun i => decide ((s.slot i).state ≠ .free)
    t.path.card.state = new ∧ t.path.card.capacity = c.capacity ∧ t.path.card.failures = c.failures ∧
    t.path.card.nextSeq = c.nextSeq ∧ t.path.card.queue = [] ∧ t.path.card.transaction = none ∧
    t.path.card.lastSignal = none ∧ t.path.card.debounce = none ∧ t.path.card.startDeadline = none ∧
    t.path.card.response = none ∧ t.path.card.busy = none ∧ t.path.card.failedTransactions = c.failedTransactions ∧
    t.path.card.handbacks = c.handbacks ++ c.queue.filterMap (fun e => match e.owner, e.data with
      | .slot i _, .buffer b => some ⟨i, b, .removed⟩
      | _, _ => none) ∧
    t.path.link.released = s.path.link.released + BitVec.ofNat 16 (heldBlocks c.queue) ∧
    t.path.link.received = s.path.link.received ∧
    (heldBlocks c.queue ≠ 0 → t.path.link.creditPending = true) ∧
    (sending → t.path.card.readBuffer = c.readBuffer ∧ t.path.card.reads = c.reads.take 1 ∧
      t.path.link.replies = s.path.link.replies ++ (c.reads.drop 1).map fun r => ⟨r.tag, .noCard, .none⟩) ∧
    (¬sending → t.path.card.readBuffer = .free ∧ t.path.card.reads = [] ∧
      t.path.link.replies = s.path.link.replies ++ c.reads.map fun r => ⟨r.tag, .noCard, .none⟩) ∧
    (∀ i, t.slot i = if (s.slot i).state = .free then s.slot i else Slot.freed) ∧
    t.mon.energy.retained =
      s.mon.energy.retained.filter (fun x => decide ((s.slot x.slot).state = .free)) ∧
    (s.path.link.notices.length + 1 + lost.length ≤ 16 →
      t.noticesHeld = s.noticesHeld ++ .cardState new c.state cause none ::
        lost.map fun i =>
          let sl := s.slot i
          .clipLost i sl.clip sl.state sl.step loss sl.startFrame sl.stopFrame sl.accepted sl.written sl.gaps sl.faults
            sl.firstFault) ∧
    t.path.intake = s.path.intake ∧ t.path.engine = s.path.engine ∧ t.path.window = s.path.window ∧
    t.mon.conv = s.mon.conv ∧ t.mon.prot = s.mon.prot ∧ t.mon.chg = s.mon.chg

/-- The start sequence: STARTING at the end of the debounce and at a rescan taken, with the start deadline and the reset
command; poll and capacity query after it; a missing, wrong or error response starts it over; a capacity of 1 to 2^32
makes the card READY, and the start deadline's expiry FAILED with a teardown. CARD SETUP replaces all three settings or
none (R78 to R81). -/
def Obligations.CardStartsAndIsSetUp : Prop :=
  let begun := fun (c : Card) (now : Time) =>
    { c with
      state := .starting, startStep := .resetCommand, debounce := none, startDeadline := some (now + 1000000)
      lastSignal := some .resetCommand, response := some (now + 10000) }
  let again := fun (c : Card) (now : Time) =>
    { c with startStep := .resetCommand, lastSignal := some .resetCommand, response := some (now + 10000) }
  (∀ (s : State) (d : Time), s.pathUp = true → s.nothingEarlier (s.pathLeft d) = true →
    let u := s.elapse (s.pathLeft d)
    (s.path.card.debounce = some d → exec .cardDebounceExpiry s = .next
      ({ u with path.card := begun u.path.card u.now }.notify (.cardState .starting s.path.card.state .inserted none))) ∧
    (s.path.card.startDeadline = some d →
      exec .startDeadlineExpiry s = .next (u.teardown .failed .startFailed .failed)) ∧
    (s.path.card.response = some d → s.path.card.transaction = none → s.path.card.state = .starting →
      exec .cardResponseTimeout s = .next { u with path.card := again u.path.card u.now })) ∧
  (∀ s : State, s.pathUp = true → s.path.card.state = .starting →
    let c := s.path.card
    (c.startStep = .resetCommand → exec (.cardStartResponse .accepted) s = .next
      { s with
        path.card.startStep := .poll, path.card.lastSignal := some .poll, path.card.response := some (s.now + 10000) }) ∧
    (c.startStep = .poll → exec (.cardStartResponse .notReady) s = .next
      { s with path.card.lastSignal := some .poll, path.card.response := some (s.now + 10000) }) ∧
    (c.startStep = .poll → exec (.cardStartResponse .accepted) s = .next
      { s with
        path.card.startStep := .capacity
        path.card.lastSignal := some .queryCapacity, path.card.response := some (s.now + 10000) }) ∧
    (∀ n, c.startStep = .capacity → 1 ≤ n → n ≤ 4294967296 → exec (.cardStartResponse (.capacity n)) s = .next
      ({ s with
        path.card.state := .ready, path.card.capacity := some n, path.card.failures := 0
        path.card.startDeadline := none, path.card.response := none }.notify
          (.cardState .ready .starting .started (some n)))) ∧
    (∀ n, c.startStep = .capacity → n = 0 ∨ 4294967296 < n →
      exec (.cardStartResponse (.capacity n)) s = .next { s with path.card := again c s.now }) ∧
    exec (.cardStartResponse .error) s = .next { s with path.card := again c s.now }) ∧
  (∀ (s : State) (r : StartResponse), s.pathUp = true → s.path.card.state ≠ .starting →
    exec (.cardStartResponse r) s = .next s) ∧
  ∀ (s : State) (tag : Byte), s.Takes →
    (s.path.card.state = .absent → exec (.cardRescan tag) s = .next (s.replied tag .badState .none)) ∧
    (s.path.card.state = .starting → exec (.cardRescan tag) s = .next (s.replied tag .busy .none)) ∧
    (s.path.card.state = .ready → s.path.card.queue ≠ [] ∨ s.path.card.reads ≠ [] →
      exec (.cardRescan tag) s = .next (s.replied tag .badState .none)) ∧
    (s.path.card.state = .failed ∨
        (s.path.card.state = .ready ∧ s.path.card.queue = [] ∧ s.path.card.reads = []) →
      exec (.cardRescan tag) s = .next
        (({ s with path.card := begun s.path.card s.now }.notify
          (.cardState .starting s.path.card.state .rescan none)).replied tag .accepted .none)) ∧
    ∀ limit timeout wait : Nat,
      (limit ≤ 15 ∧ 100 ≤ timeout ∧ timeout ≤ 2000 ∧ 10 ≤ wait ∧ wait ≤ 2550 →
        exec (.cardSetup tag limit timeout wait) s = .next
          ({ s with
            path.card.retryLimit := limit, path.card.writeTimeout := timeout, path.card.readWait := wait }.replied
              tag .ok .none)) ∧
      (15 < limit ∨ timeout < 100 ∨ 2000 < timeout ∨ wait < 10 ∨ 2550 < wait →
        exec (.cardSetup tag limit timeout wait) s = .next (s.replied tag .badArg .none))

/-! ### Transactions (05) -/

/-- An attempt begins: the arbiter's choice while the card is free, the oldest read when it is eligible and the read buffer
free, otherwise a write of the entries at the head of the queue that run on, at most 64 blocks of them; or a retry once
no hold is running, with the same work; and neither while the hold runs (R82 to R85, R87, R92, R93, R95). -/
def Obligations.AttemptsBegin : Prop :=
  (∀ s : State, s.pathUp = true →
    let c := s.path.card
    (c.state ≠ .ready ∨ c.transaction ≠ none ∨ s.path.intake.shockHold ≠ none →
      exec .transactionBegin s = .next s) ∧
    (c.state = .ready → c.transaction = none → s.path.intake.shockHold = none →
      let passed := fun r : CardRead => ∀ e ∈ c.queue, ∀ f, r.fence = some f → 2147483648 ≤ (f - e.seq).toNat
      let reads := ∃ r rest, c.reads = r :: rest ∧ passed r ∧ c.readBuffer = .free
      (∀ r rest, c.reads = r :: rest → passed r → c.readBuffer = .free →
        exec .transactionBegin s = .next
          { s with
            path.card :=
              { c with
                transactions := min (c.transactions + 1) 4294967295
                transaction := some ⟨.read, r.start, r.count, .command, 0, 0, false, 0, false⟩
                reads := { r with wait := none } :: rest
                readBuffer := .filling []
                lastSignal := some (.readCommand r.start r.count)
                response := some (s.now + 10000) } }) ∧
      (∀ e rest, ¬reads → c.queue = e :: rest →
        let run := extend rest (e.start + e.count) e.count
        exec .transactionBegin s = .next
          { s with
            path.card :=
              { c with
                transactions := min (c.transactions + 1) 4294967295
                transaction := some ⟨.write (run.1 + 1), e.start, run.2, .command, 0, 0, false, 0, false⟩
                lastSignal := some (.writeCommand e.start run.2)
                response := some (s.now + 10000) } }) ∧
      (¬reads → c.queue = [] → exec .transactionBegin s = .next s)) ∧
    (∀ t, c.transaction = some t → t.phase ≠ .waitRetry ∨ s.path.intake.shockHold ≠ none →
      exec .retryBegin s = .next s) ∧
    ∀ t, c.transaction = some t → t.phase = .waitRetry → s.path.intake.shockHold = none →
      exec .retryBegin s = .next
        { s with
          path.card :=
            { c with
              transaction := some { t with phase := .command, overlap := false, blocksDone := 0, refused := false }
              readBuffer := if t.work = .read then .filling [] else c.readBuffer
              lastSignal := some (match t.work with
                | .write _ => .writeCommand t.start t.count
                | .read => .readCommand t.start t.count)
              response := some (s.now + 10000) } }) ∧
  ∀ (e : Entry) (rest : List Entry), e.count ≤ 64 →
    let run := extend rest (e.start + e.count) e.count
    let taken := (e :: rest).take (run.1 + 1)
    taken.length = run.1 + 1 ∧ (taken.map Entry.count).sum = run.2 ∧ run.2 ≤ 64 ∧
    (∀ j x y, taken[j]? = some x → taken[j + 1]? = some y → y.start = x.start + x.count) ∧
    ∀ y, rest[run.1]? = some y → y.start = e.start + run.2 → 64 < run.2 + y.count

/-- A write attempt that goes well: the response to its command, each acknowledgement and the stop command, the busy
deadline, and at the end of busy DONE, with its entries out of the queue, their blocks released, their buffers handed
back, the slots' written blocks raised and the retained entries following (R75, R77, R82, R89). -/
def Obligations.WriteAttemptRunsToDone : Prop :=
  ∀ (s : State) (t : Transaction) (k : Nat), s.pathUp = true → s.path.card.transaction = some t → t.work = .write k →
    let busy := fun x : Transaction =>
      { s with
        path.card.transaction := some { x with phase := .busy }
        path.card.lastSignal := some .stopCommand
        path.card.response := none
        path.card.busy := some (s.now + BitVec.ofNat 32 (1000 * s.path.card.writeTimeout)) }
    (t.phase = .command → exec (.cardCommandResponse true) s = .next
      { s with
        path.card.transaction := some { t with phase := .data }
        path.card.lastSignal := some (.dataBlock 0)
        path.card.response := some (s.now + 10000) }) ∧
    (t.phase = .data → t.blocksDone + 1 < t.count → exec (.writeBlockAck true) s = .next
      { s with
        path.card.transaction := some { t with blocksDone := t.blocksDone + 1 }
        path.card.lastSignal := some (.dataBlock (t.blocksDone + 1))
        path.card.response := some (s.now + 10000) }) ∧
    (t.phase = .data → t.count ≤ t.blocksDone + 1 →
      exec (.writeBlockAck true) s = .next (busy { t with blocksDone := t.blocksDone + 1 })) ∧
    (t.phase = .data → exec (.writeBlockAck false) s = .next (busy { t with refused := true })) ∧
    (t.phase = .busy → t.refused = false →
      let taken := s.path.card.queue.take k
      let videoOf := fun i => taken.filter fun e => decide (e.owner = .slot i .video)
      let writtenOf := fun i => min ((s.slot i).written + ((videoOf i).map Entry.count).sum) 4294967295
      ∃ u, exec .busyEnd s = .next u ∧
        u.path.card =
          { s.path.card with
            queue := s.path.card.queue.drop k, transaction := none, failures := 0, response := none, busy := none
            handbacks := s.path.card.handbacks ++ taken.filterMap fun e => match e.owner, e.data with
              | .slot i _, .buffer b => some ⟨i, b, .done⟩
              | _, _ => none } ∧
        (heldBlocks taken = 0 → u.path.link = s.path.link) ∧
        (heldBlocks taken ≠ 0 → u.path.link = (State.chooseUnit
          { s with
            path.link.released := s.path.link.released + BitVec.ofNat 16 (heldBlocks taken)
            path.link.creditPending := true }).path.link) ∧
        (∀ i, u.slot i = if videoOf i = [] then s.slot i else { s.slot i with written := writtenOf i }) ∧
        u.mon =
          { s.mon with
            energy.retained := s.mon.energy.retained.map fun x =>
              if videoOf x.slot = [] then x else { x with written := writtenOf x.slot } } ∧
        u.path.intake = s.path.intake ∧ u.path.engine = s.path.engine ∧ u.path.window = s.path.window)

/-- An attempt that ends otherwise is judged: an error response or bad read block, or a refused write at the end of busy,
CRC_ERROR; a response that does not come, NO_RESPONSE; a busy deadline that expires, BUSY_TIMEOUT. The judgement is an
uncounted retry after an overlap while fewer than 8 were used, then a counted retry within the limit, and then failure:
a write's entries leave with their blocks released and credit due, their fault counts and WRITE FAULT notices, a read is
answered CARD_ERROR, and the third failure in a row makes the card FAILED (R75, R77, R82, R83, R86, R88, R89, R94, R164). The empty streams of a PLAIN owner are the
model's choice (log 33). -/
def Obligations.FailedAttemptsAreJudged : Prop :=
  (∀ (s : State) (t : Transaction), s.pathUp = true → s.path.card.transaction = some t →
    (t.phase = .command → exec (.cardCommandResponse false) s = .next (s.endAttempt t .crcError)) ∧
    (∀ k, t.work = .write k → t.phase = .busy → t.refused = true →
      exec .busyEnd s = .next (s.endAttempt t .crcError)) ∧
    (∀ b, t.work = .read → t.phase = .data → s.path.card.readBuffer = .filling b →
      exec (.readBlockReceived none) s = .next
        ({ s with path.card.lastSignal := some .stopCommand }.endAttempt t .crcError)) ∧
    ∀ d, s.nothingEarlier (s.pathLeft d) = true →
      let u := s.elapse (s.pathLeft d)
      (s.path.card.busy = some d → exec .busyTimeout s = .next (u.endAttempt t .busyTimeout)) ∧
      (s.path.card.response = some d → exec .cardResponseTimeout s = .next
        ({ u with
          path.card.lastSignal := if t.work = Work.read ∧ t.phase = Phase.data then some .stopCommand
            else u.path.card.lastSignal }.endAttempt t .noResponse))) ∧
  ∀ (s : State) (t : Transaction) (outcome : AttemptFailure), s.pathUp = true →
    let c : Card := { s.path.card with response := none, busy := none }
    let grace := t.overlap = true ∧ t.uncounted < 8
    let failed : Card := { c with
      transaction := none, failures := c.failures + 1
      failedTransactions := min (c.failedTransactions + 1) 4294967295 }
    (grace → s.endAttempt t outcome =
      { s with
        path.card :=
          { c with
            transaction := some { t with phase := .waitRetry, uncounted := t.uncounted + 1 }
            uncountedRetries := min (c.uncountedRetries + 1) 4294967295 } }) ∧
    (¬grace → t.counted < c.retryLimit → s.endAttempt t outcome =
      { s with
        path.card :=
          { c with
            transaction := some { t with phase := .waitRetry, counted := t.counted + 1 }
            countedRetries := min (c.countedRetries + 1) 4294967295 } }) ∧
    (¬grace → c.retryLimit ≤ t.counted →
      (∀ r rest, t.work = .read → c.reads = r :: rest →
        let u : State :=
          ({ s with path.card := { failed with reads := rest, readBuffer := .free } } : State).answered r.tag .cardError .none
        s.endAttempt t outcome =
          if c.failures + 1 < 3 then u else u.teardown .failed .transactions .failed) ∧
      ∀ k, t.work = .write k →
        let taken := c.queue.take k
        let own := fun o : Option (Fin 4) => taken.filter fun e => decide (e.slot? = o)
        let first := fun o => ((own o).head?.map Entry.start).getD 0
        let faulted := (taken.map Entry.slot?).eraseDups
        ∃ u : State,
          s.endAttempt t outcome =
            (if c.failures + 1 < 3 then u else u.teardown .failed .transactions .failed) ∧
          u.path.card =
            { failed with
              queue := c.queue.drop k
              handbacks := c.handbacks ++ taken.filterMap fun e => match e.owner, e.data with
                | .slot i _, .buffer b => some ⟨i, b, .failed⟩
                | _, _ => none } ∧
          u.path.link.released = s.path.link.released + BitVec.ofNat 16 (heldBlocks taken) ∧
          u.path.link.received = s.path.link.received ∧ u.path.link.replies = s.path.link.replies ∧
          (heldBlocks taken ≠ 0 → u.CreditDue) ∧
          (∀ i, u.slot i =
            if own (some i) = [] then s.slot i
            else
              { s.slot i with
                faults := min ((s.slot i).faults + 1) 4294967295
                firstFault := some ((s.slot i).firstFault.getD (first (some i))) }) ∧
          (s.path.link.notices.length + faulted.length ≤ 16 →
            u.noticesHeld = s.noticesHeld ++ faulted.map fun o =>
              .writeFault
                (match o with
                  | none => .plain
                  | some i => .slot i (s.slot i).clip)
                ⟨(own o).any (·.isStream .video), (own o).any (·.isStream .track), (own o).any (·.isStream .summary)⟩
                (first o) ((own o).map Entry.count).sum outcome (1 + t.counted + t.uncounted)) ∧
          u.mon = s.mon ∧ u.path.intake = s.path.intake ∧ u.path.engine = s.path.engine ∧
          u.path.window = s.path.window)

/-- Reads: the five checks in their order and the read that joins with its fence and its wait deadline; the response to
its command and its blocks, the last of which ends it DONE with its data in the read buffer; its cells in order, the
last of which frees the buffer and offers the reply; and TIMEOUT for a read that has not begun, the one whose wait ends
first, the older of two that end together (log 29, DEDUCED) (R83, R91 to R94, R160). -/
def Obligations.ReadsRunToTheirReply : Prop :=
  (∀ (s : State) (tag : Byte), s.Takes →
    exec (.cardRead tag none) s = .next
      ({ s with path.link.payloadErrors := min (s.path.link.payloadErrors + 1) 4294967295 }.replied
        tag .badCheck .none) ∧
    ∀ start count,
      let answers := fun code data => exec (.cardRead tag (some ⟨start, count⟩)) s = .next (s.replied tag code data)
      (count = 0 ∨ 8 < count → answers .badArg .none) ∧
      (1 ≤ count → count ≤ 8 → s.path.card.state ≠ .ready → answers .noCard .none) ∧
      ∀ capacity, 1 ≤ count → count ≤ 8 → s.path.card.state = .ready → s.path.card.capacity = some capacity →
        (capacity < start + count → answers .outOfRange .none) ∧
        (start + count ≤ capacity →
          (∀ r, s.path.card.reads.find? (fun r => decide (r.start = start ∧ r.count = count)) = some r →
            answers .duplicate (.readTag r.tag)) ∧
          ((∀ r ∈ s.path.card.reads, r.start = start → r.count ≠ count) →
            (3 ≤ s.path.card.reads.length → answers .busy .none) ∧
            (s.path.card.reads.length < 3 →
              exec (.cardRead tag (some ⟨start, count⟩)) s = .next
                { s.owing with
                  path.card.reads := s.path.card.reads ++
                    [⟨tag, start, count, s.path.card.queue.getLast?.map Entry.seq,
                      some (s.now + BitVec.ofNat 32 (1000 * s.path.card.readWait))⟩] })))) ∧
  (∀ (s : State) (t : Transaction), s.pathUp = true → s.path.card.transaction = some t → t.work = .read →
    (t.phase = .command → exec (.cardCommandResponse true) s = .next
      { s with
        path.card.transaction := some { t with phase := .data }
        path.card.response := some (s.now + 10000) }) ∧
    ∀ b blocks, t.phase = .data → s.path.card.readBuffer = .filling blocks →
      (blocks.length + 1 < t.count → exec (.readBlockReceived (some b)) s = .next
        { s with
          path.card.readBuffer := .filling (blocks ++ [b])
          path.card.response := some (s.now + 10000) }) ∧
      ∀ r rest, s.path.card.reads = r :: rest → t.count ≤ blocks.length + 1 →
        exec (.readBlockReceived (some b)) s = .next (State.chooseUnit
          { s with
            path.card.transaction := none
            path.card.response := none
            path.card.failures := 0
            path.card.readBuffer := .sending r.tag (blocks ++ [b]) 0 })) ∧
  (∀ (s : State) tag blocks n r rest b, s.path.card.readBuffer = .sending tag blocks n → s.path.card.reads = r :: rest →
    blocks[n / 8]? = some b →
    let lane : LaneUnit := .readData tag (n / 8) (n % 8) ((b.toList.drop (64 * (n % 8))).take 64)
    s.beginCell .readData = { s with path.link.lane := some lane, path.link.pointer := .credit } ∧
    (s.path.link.lane = some lane →
      (n + 1 < 8 * blocks.length → s.endUnit =
        { s with path.card.readBuffer := .sending tag blocks (n + 1), path.link.lane := none }) ∧
      (n + 1 = 8 * blocks.length → s.pathUp = true → s.endUnit =
        { s with
          path.card.readBuffer := .free
          path.card.reads := rest
          path.link.replies := s.path.link.replies ++ [⟨tag, .ok, .none⟩]
          path.link.lane := none }))) ∧
  ∀ (s : State) (before_ after : List CardRead) (r : CardRead) (d : Time), s.pathUp = true →
    s.path.card.reads = before_ ++ r :: after → r.wait = some d → s.nothingEarlier (s.pathLeft d) = true →
    (∀ x ∈ before_, ∀ e, x.wait = some e → s.pathLeft d < s.pathLeft e) →
    let u := s.elapse (s.pathLeft d)
    exec .readWaitTimeout s = .next (({ u with path.card.reads := before_ ++ after } : State).answered r.tag .timeout .none)

/-! ### Track and closing (06) -/

/-- The steps of closing: the oldest handback frees its buffer and counts its real records written or lost; step 2 pads the
FILLING buffer and writes it, or counts it lost with no track block left; step 3 done, the summary is built in buffer 0
and queued at the first block of the first track extent, never while an entry of the slot remains queued; its handback
seals the clip (R60, R99, R100, R104 to R106). Handbacks wait in a list, the oldest taken first, and step 4 lies inside
SUMMARY_BUILD, by the model's choice (log 11). -/
def Obligations.ClosingRunsToTheSeal : Prop :=
  (∀ s : State, s.pathUp = true →
    (s.path.card.handbacks = [] → exec .bufferHandback s = .next s) ∧
    ∀ (i : Fin 4) (b : Fin 2) result rest, s.path.card.handbacks = ⟨i, b, result⟩ :: rest →
      let sl := s.slot i
      let taken : State := { s with path.card.handbacks := rest }
      let becomes := fun sl' : Slot => exec .bufferHandback s = .next
        { taken with path.slots := s.path.slots.set i { sl' with buffers := sl.buffers.set b .free } }
      (sl.state = .free → becomes sl) ∧
      (sl.state ≠ .free → result = .removed → sl.buffers[b] ≠ .free → (∀ r, sl.buffers[b] ≠ .filling r) → becomes sl) ∧
      (∀ records, sl.state ≠ .free → sl.buffers[b] = .queuedTrack records →
        let real := (records.filter fun r => decide (r.bandCount ≠ 0)).length
        (result = .done → becomes { sl with recordsWritten := min (sl.recordsWritten + real) 4294967295 }) ∧
        (result = .failed → becomes { sl with recordsLost := min (sl.recordsLost + real) 4294967295 })) ∧
      ∀ summary, sl.state ≠ .free → sl.buffers[b] = .queuedSummary summary → result ≠ .removed →
        let v := taken.notify (.clipSealed i summary (decide (result = .failed)))
        exec .bufferHandback s = .next
          { v with
            path.slots := s.path.slots.set i Slot.freed
            mon.energy.retained := s.mon.energy.retained.filter fun c => decide (c.slot ≠ i) }) ∧
  ∀ (s : State) (i : Fin 4), s.pathUp = true →
    let sl := s.slot i
    (sl.state = .closing → sl.step = .pad →
      ((∀ b records, sl.filling ≠ some (b, records)) → exec (.closingPad i) s = .next
        { s with path.slots := s.path.slots.set i { sl with step := .drain } }) ∧
      ∀ b records, sl.filling = some (b, records) →
        let padded := records ++ List.replicate (8 - records.length) FrameRecord.padding
        (∀ block, sl.trackCursor.next = some block → exec (.closingPad i) s = .next
          { s with
            path.slots := s.path.slots.set i
              { sl with
                step := .drain, buffers := sl.buffers.set b (.queuedTrack padded)
                trackCursor := sl.trackCursor.advance sl.trackList }
            path.card.nextSeq := s.path.card.nextSeq + 1
            path.card.queue := s.path.card.queue ++ [⟨s.path.card.nextSeq, .slot i .track, block, 1, .buffer b⟩] }) ∧
        (sl.trackCursor.next = none → exec (.closingPad i) s = .next
          { s with
            path.slots := s.path.slots.set i
              { sl with
                step := .drain, buffers := sl.buffers.set b .free
                recordsLost :=
                  min (sl.recordsLost + (records.filter fun r => decide (r.bandCount ≠ 0)).length) 4294967295 } })) ∧
    (∀ x rest, sl.state = .closing → sl.step = .drain → (∀ e ∈ s.path.card.queue, e.slot? ≠ some i) →
      sl.buffers[0] = .free → sl.buffers[1] = .free → sl.trackList = x :: rest →
      exec (.summaryBuild i) s = .next
        { s with
          path.slots := s.path.slots.set i
            { sl with
              step := .sealing
              buffers := sl.buffers.set 0 (.queuedSummary
                ⟨sl.clip, sl.cause, sl.track, sl.startFrame, sl.stopFrame, sl.firstStamp, sl.accepted, sl.written,
                  sl.faults, sl.firstFault, sl.gaps, sl.recordsWritten, sl.recordsLost, sl.video, sl.trackList⟩) }
          path.card.nextSeq := s.path.card.nextSeq + 1
          path.card.queue := s.path.card.queue ++
            [⟨s.path.card.nextSeq, .slot i .summary, x.start, 1, .buffer 0⟩] }) ∧
    (sl.state ≠ .closing ∨ sl.step ≠ .pad → exec (.closingPad i) s = .next s) ∧
    (sl.state ≠ .closing ∨ sl.step ≠ .drain → exec (.summaryBuild i) s = .next s) ∧
    ((∃ e ∈ s.path.card.queue, e.slot? = some i) ∨ sl.buffers[0] ≠ .free ∨ sl.buffers[1] ≠ .free →
      exec (.summaryBuild i) s = .next s)

/-! ### Measurement and charge (07), the energy state (10) -/

/-- At each current result taken, A = r + I × T with T the period of the active rate; Q rises by floor(A / 3,600,000) within
0 to C × 1000, and r becomes A − ΔQ × 3,600,000, from 0 to 3,599,999 whether or not the clamp applies, seeded or not and
through a rail loss, ΔQ never beyond 37; a result discarded while the converter settles is not counted. A result that
ends a charge is then calibrated over by R123 (R120). -/
def Obligations.CoulombCounterIsExact : Prop :=
  periodUs 32 = 500 ∧ periodUs 64 = 1000 ∧ periodUs 128 = 2000 ∧ periodUs 256 = 4000 ∧
  (∀ (c : Converter) (i : Int),
    let a := c.remainder + i * periodUs c.rate
    c.count i =
      { c with
        charge := max 0 (min ((c.capacity : Int) * 1000) (c.charge + a / 3600000))
        remainder := a - a / 3600000 * 3600000 } ∧
    0 ≤ (c.count i).remainder ∧ (c.count i).remainder ≤ 3599999 ∧
    0 ≤ (c.count i).charge ∧ (c.count i).charge ≤ (c.capacity : Int) * 1000 ∧
    (-32767 ≤ i → i ≤ 32767 → 0 ≤ c.remainder → c.remainder ≤ 3599999 → periodUs c.rate ≤ 4000 →
      -37 ≤ a / 3600000 ∧ a / 3600000 ≤ 37)) ∧
  ∀ (s : State) (milliamps : Int), ∃ t, exec (.currentResult milliamps) s = .next t ∧
    let held := max (-32767) (min 32767 milliamps)
    (0 < s.mon.conv.settling →
      t.mon.conv.charge = s.mon.conv.charge ∧ t.mon.conv.remainder = s.mon.conv.remainder) ∧
    (s.mon.conv.settling = 0 → s.mon.chg.state ≠ .cv ∨ s.mon.chg.lowCount < 9 →
      t.mon.conv.charge = (s.mon.conv.count held).charge ∧
        t.mon.conv.remainder = (s.mon.conv.count held).remainder) ∧
    (s.mon.conv.settling = 0 → s.mon.chg.state = .cv →
      (t.mon.conv.charge = (s.mon.conv.count held).charge ∧
        t.mon.conv.remainder = (s.mon.conv.count held).remainder) ∨
      (t.mon.chg.state = .done ∧ t.mon.conv.charge = (s.mon.conv.capacity : Int) * 1000 ∧ t.mon.conv.remainder = 0))

/-- CURRENT_RESULT and CURRENT RATE: a settling result only counts down; a result taken enters the history, is counted,
changes the energy state with a changed SoC, is judged for DOC and COC while their switches are on, and in CV counts
toward termination; a pending rate becomes active at the period's end and settles two results where it differs (R111 to
R113, R117, R121, R124, R126, R141). -/
def Obligations.CurrentResultIsTaken : Prop :=
  (∀ (s : State) (milliamps : Int),
    let held := max (-32767) (min 32767 milliamps)
    let rated := fun u : State => match s.mon.conv.pendingRate with
      | none => u
      | some r =>
        { u with
          mon.conv.rate := r, mon.conv.pendingRate := none
          mon.conv.settling := if r = s.mon.conv.rate then u.mon.conv.settling else 2 }
    let p := s.mon.prot
    (0 < s.mon.conv.settling → exec (.currentResult milliamps) s = .next
      (rated { s with mon.conv.settling := s.mon.conv.settling - 1 })) ∧
    (s.mon.conv.settling = 0 →
      let counted : State :=
        { s with
          mon.conv :=
            { s.mon.conv.count held with
              histories.current := (⟨held, s.monNow⟩ :: s.mon.conv.histories.current).take 4 } }
      let u := if counted.mon.conv.soc = s.mon.conv.soc then counted else counted.settleEnergy .soc
      let judged : State :=
        { u with
          mon.prot.doc := if p.switches.discharge then
              (if held ≤ -(p.settings.docMa : Int) then some (p.doc.getD (s.monNow + BitVec.ofNat 32 p.settings.docMs))
                else none)
            else p.doc
          mon.prot.coc := if p.switches.charge then
              (if (p.settings.cocMa : Int) ≤ held then some (p.coc.getD (s.monNow + BitVec.ofNat 32 p.settings.cocMs))
                else none)
            else p.coc }
      let low := p.switches.charge = true ∧ held < s.mon.chg.settings.iterm
      (s.mon.chg.state ≠ .cv → exec (.currentResult milliamps) s = .next (rated judged)) ∧
      (s.mon.chg.state = .cv → ¬low → exec (.currentResult milliamps) s = .next
        (rated { judged with mon.chg.lowCount := 0 })) ∧
      (s.mon.chg.state = .cv → low → s.mon.chg.lowCount + 1 < 10 → exec (.currentResult milliamps) s = .next
        (rated { judged with mon.chg.lowCount := s.mon.chg.lowCount + 1 })) ∧
      (s.mon.chg.state = .cv → low → 10 ≤ s.mon.chg.lowCount + 1 → exec (.currentResult milliamps) s = .next
        (rated ({ judged with mon.chg.lowCount := s.mon.chg.lowCount + 1 }.moveCharger .done .terminated .empty))))) ∧
  ∀ (s : State) (tag : Byte) (rate : Nat), s.Takes →
    (rate = 32 ∨ rate = 64 ∨ rate = 128 ∨ rate = 256 →
      exec (.currentRate tag rate) s = .next ({ s with mon.conv.pendingRate := some rate }.replied tag .ok .none)) ∧
    (rate ≠ 32 → rate ≠ 64 → rate ≠ 128 → rate ≠ 256 →
      exec (.currentRate tag rate) s = .next (s.replied tag .badArg .none))

/-- VOLTAGE_RESULT and SCAN LIST: the first results of a visit are discarded; the next is held in its channel's range,
enters its history and is handed to its channel's consumers; the visit then ends in the next entry, or in entry 0 of a
pending list, with the histories of the channels it drops emptied (R114 to R119). The order of the consumers of one result,
COV, DUV, charger, energy, is the model's choice (log 7, DESIGN CHOICE): R119 has them act independently. -/
def Obligations.VoltageResultIsTakenAndScanned : Prop :=
  (∀ (s : State) (value : Int),
    (0 < s.mon.conv.scanDiscards →
      exec (.voltageResult value) s = .next { s with mon.conv.scanDiscards := s.mon.conv.scanDiscards - 1 }) ∧
    ∀ e, s.mon.conv.scanDiscards = 0 → s.mon.conv.scanList[s.mon.conv.scanIndex]? = some e →
      let held := max (channelRange e.channel).1 (min (channelRange e.channel).2 value)
      let entered : State :=
        { s with
          mon.conv.histories := s.mon.conv.histories.set e.channel
            ((⟨held, s.monNow⟩ :: s.mon.conv.histories.get e.channel).take 4) }
      exec (.voltageResult value) s = .next (entered.handOn e.channel held).endVisit) ∧
  (channelRange .cell1 = (0, 5000) ∧ channelRange .cell2 = (0, 5000) ∧ channelRange .input = (0, 25000) ∧
    channelRange .battTemp = (-400, 1250) ∧ channelRange .dieTemp = (-400, 1500) ∧ channelRange .pack = (0, 10000)) ∧
  (∀ (s : State) (v : Int),
    (∀ c, c = Channel.cell1 ∨ c = Channel.cell2 → s.handOn c v = s.evalCov.evalDuv.chargerCell.settleEnergy .cell) ∧
    s.handOn .input v = s.chargerInput v ∧ s.handOn .battTemp v = s.chargerBattTemp v ∧
    s.handOn .dieTemp v = s.chargerDieTemp v ∧ s.handOn .pack v = s) ∧
  (∀ s : State,
    let c := s.mon.conv
    let next := if c.scanIndex + 1 < c.scanList.length then c.scanIndex + 1 else 0
    (c.pendingScan = none → s.endVisit =
      { s with
        mon.conv.scanIndex := next
        mon.conv.scanDiscards := (c.scanList[next]?.map ScanEntry.discards).getD 0 }) ∧
    ∀ list, c.pendingScan = some list →
      let lost := fun ch => (∃ e ∈ c.scanList, e.channel = ch) ∧ ∀ e ∈ list, e.channel ≠ ch
      ∃ h : Histories,
        (∀ ch, ch ≠ .current → (lost ch → h.get ch = []) ∧ (¬lost ch → h.get ch = c.histories.get ch)) ∧
        h.current = c.histories.current ∧
        let u : State :=
          { s with
            mon.conv.scanList := list
            mon.conv.pendingScan := none
            mon.conv.histories := h
            mon.conv.scanIndex := 0
            mon.conv.scanDiscards := (list.head?.map ScanEntry.discards).getD 0 }
        (¬lost .dieTemp → s.endVisit = u) ∧ (lost .dieTemp → s.endVisit = u.setDieHot false)) ∧
  ∀ (s : State) (tag : Byte) (entries : List ScanArg), s.Takes →
    let good := (∀ a ∈ entries, (∃ c, a.channel = some c ∧ c ≠ .current) ∧
        (a.rate = 32 ∨ a.rate = 64 ∨ a.rate = 128 ∨ a.rate = 256) ∧ a.discards ≤ 3) ∧
      1 ≤ entries.length ∧ entries.length ≤ 8 ∧
      ∀ c ∈ [Channel.cell1, .cell2, .input, .battTemp], ∃ a ∈ entries, a.channel = some c
    (good → ∃ list : List ScanEntry, list.length = entries.length ∧
      (∀ (k : Nat) a e, entries[k]? = some a → list[k]? = some e →
        a.channel = some e.channel ∧ e.rate = a.rate ∧ e.discards = a.discards) ∧
      exec (.scanList tag entries) s = .next ({ s with mon.conv.pendingScan := some list }.replied tag .ok .none)) ∧
    (¬good → exec (.scanList tag entries) s = .next (s.replied tag .badArg .none))

/-- The energy state is the first row of R151 that holds; a change is noticed, and entry to CRITICAL hands the emergency
seal, slot by slot, while the path domain is up; COUNTER SET replaces capacity, levels and charge and seeds the counter,
and a calibration sets the charge alone, each with the state recomputed (R108, R121 to R123, R151, R152). That COUNTER SET,
which hands the energy monitor the SoC and the levels, recomputes the state once, with cause LEVELS, is the model's reading
(log 22, DEDUCED). -/
def Obligations.EnergyStateFollowsItsTable : Prop :=
  (∀ s : State,
    let low := (s.mon.conv.seeded = true ∧ s.mon.conv.soc < s.mon.energy.reserve) ∨
      ∀ v, s.lowerCell = some v → v < s.mon.energy.lowCell
    (s.computeEnergy = .critical ↔ s.mon.prot.earlyWarning = true) ∧
    (s.computeEnergy = .supplied ↔ s.mon.prot.earlyWarning = false ∧ s.mon.chg.inputPresent = true) ∧
    (s.computeEnergy = .low ↔ s.mon.prot.earlyWarning = false ∧ s.mon.chg.inputPresent = false ∧ low) ∧
    (s.computeEnergy = .battery ↔ s.mon.prot.earlyWarning = false ∧ s.mon.chg.inputPresent = false ∧ ¬low) ∧
    (∀ a b, s.latest .cell1 = some a → s.latest .cell2 = some b → s.lowerCell = some (min a b)) ∧
    (s.latest .cell1 = none ∨ s.latest .cell2 = none → s.lowerCell = none)) ∧
  (∀ (s : State) (cause : EnergyCause),
    (s.computeEnergy = s.mon.energy.state → s.settleEnergy cause = s) ∧
    (s.computeEnergy ≠ s.mon.energy.state →
      let u := { s with mon.energy.state := s.computeEnergy }.notify
        (.energyState s.computeEnergy s.mon.energy.state cause s.mon.conv.soc s.mon.conv.seeded s.lowerCell s.monNow)
      (s.computeEnergy = .critical → s.pathUp = true → s.settleEnergy cause =
        (((u.sealSlot 0).sealSlot 1).sealSlot 2).sealSlot 3) ∧
      (s.computeEnergy ≠ .critical ∨ s.pathUp = false → s.settleEnergy cause = u))) ∧
  (∀ (s : State) (i : Fin 4),
    ((s.slot i).state = .free → s.sealSlot i = s) ∧
    ((s.slot i).state = .closing →
      s.sealSlot i = { s with path.slots := s.path.slots.set i ((s.slot i).cutOwed s.path.window.frameCounter) })) ∧
  (∀ (s : State) (q : Int),
    let u : State := { s with mon.conv.charge := q, mon.conv.remainder := 0, mon.conv.seeded := true }
    s.calibrate q = if u.mon.conv.soc = s.mon.conv.soc ∧ s.mon.conv.seeded = true then u else u.settleEnergy .soc) ∧
  ∀ (s : State) (tag : Byte) (a : CounterArgs), s.Takes →
    let good := 100 ≤ a.capacity ∧ a.capacity ≤ 20000 ∧ a.seed ≤ a.capacity * 1000 ∧ a.reserve ≤ 500 ∧
      3000 ≤ a.lowCell ∧ a.lowCell ≤ 3800
    (good → exec (.counterSet tag a) s = .next
      (({ s with
        mon.conv.capacity := a.capacity, mon.conv.reserve := a.reserve, mon.conv.lowCell := a.lowCell
        mon.conv.charge := a.seed, mon.conv.remainder := 0, mon.conv.seeded := true
        mon.energy.reserve := a.reserve, mon.energy.lowCell := a.lowCell }.settleEnergy .levels).replied tag .ok .none)) ∧
    (¬good → exec (.counterSet tag a) s = .next (s.replied tag .badArg .none))

/-! ### Protection and switches (08) -/

/-- The recomputation of the five switches from latches, requests, charger state and balance mode, with the timers that an
opening switch removes and the SC count that a closing one starts; and the rail after it, lost with everything in the path
domain when both its supplies are off, returned in a path reset with cause RAIL (R124, R125, R129, R133, R153). -/
def Obligations.SwitchesAndRailFollowTheirTerms : Prop :=
  (∀ s : State,
    let p := s.mon.prot
    let c := s.mon.chg.state
    let forced := p.dischargeTrip || p.chargeTrip || p.lockout || p.duvCut
    let on1 := match p.balanceMode with
      | .auto => decide (s.mon.chg.demand = Demand.cell1)
      | .manual => p.manual1
    let on2 := match p.balanceMode with
      | .auto => decide (s.mon.chg.demand = Demand.cell2)
      | .manual => p.manual2
    let discharge := p.dischargeRequest && !p.dischargeTrip && !p.duvCut
    let charge := decide (c = ChargerState.cc ∨ c = ChargerState.cv) && !p.chargeTrip && !p.covBlocking
    s.settleSwitches =
      ({ s with
        mon.prot.switches :=
          ⟨discharge, charge, decide (c = ChargerState.precharge) && !p.covBlocking, !forced && on1, !forced && on2⟩
        mon.prot.doc := if discharge then p.doc else none
        mon.prot.coc := if charge then p.coc else none
        mon.prot.scLeft := if discharge then
            (if p.switches.discharge = false ∧ s.pins.scSignal = true then some (50 * p.settings.scSteps) else p.scLeft)
          else none }).settleRail) ∧
  ∀ s : State,
    let supplied := s.mon.prot.switches.discharge = true ∨ s.mon.chg.inputPresent = true
    (supplied → s.mon.energy.railUp = true → s.settleRail = s) ∧
    (supplied → s.mon.energy.railUp = false → s.settleRail =
      { s with
        path := Path.afterReset
        mon.energy.railUp := true
        mon.energy.cause := .rail
        mon.energy.resetEnd := some (s.monNow + 2) }) ∧
    (¬supplied → s.mon.energy.railUp = true → s.settleRail =
      { s with path := Path.afterReset, mon.energy.railUp := false, mon.energy.resetEnd := none }) ∧
    (¬supplied → s.mon.energy.railUp = false → s.settleRail = s)

/-- Current trips: the comparator starts and stops the SC count; the end of the count and the DOC timer take the discharge
trip, with its hold-off, its recovery, and lockout at the third trip within 10,000 ms; the COC timer takes the charge
trip; each hold-off's end clears its latch, the request coming back only when recovery is armed without lockout; and input
that becomes present clears a lockout and a cut (R125, R126, R130, R131, R135). That DOC and COC trip at the timer's expiry
without a further result is the model's choice (log 34). -/
def Obligations.CurrentTripsAndHoldoffs : Prop :=
  (∀ s : State,
    exec .scComparatorRise s = .next
      { s with
        pins.scSignal := true
        mon.prot.scLeft := if s.mon.prot.switches.discharge then some (50 * s.mon.prot.settings.scSteps)
          else s.mon.prot.scLeft } ∧
    exec .scComparatorFall s = .next { s with pins.scSignal := false, mon.prot.scLeft := none }) ∧
  (∀ (s : State) us, s.mon.prot.scLeft = some us → s.nothingEarlier us = true →
    exec .scDelayExpiry s = .next ((s.elapse us).dischargeTrip .sc (some s.mon.prot.settings.scMa))) ∧
  (∀ (s : State) (d : Time), s.nothingEarlier (s.monLeft d) = true →
    let u := s.elapse (s.monLeft d)
    (s.mon.prot.doc = some d → exec .docTimerExpiry s = .next (u.dischargeTrip .doc (s.latest .current))) ∧
    (s.mon.prot.coc = some d → exec .cocTimerExpiry s = .next
      (let v := { u with
        mon.prot.chargeTrip := true
        mon.prot.coc := none
        mon.prot.chargeHoldoff := some (u.monNow + 1000) }.settleSwitches
      v.notify (.protectionTrip .coc .chargeOff (s.latest .current) u.monNow false 1000))) ∧
    (s.mon.prot.dischargeHoldoff = some d → exec .dischargeHoldoffExpiry s = .next
      (let v := { u with
        mon.prot.dischargeHoldoff := none
        mon.prot.dischargeTrip := false
        mon.prot.dischargeRequest :=
          s.mon.prot.dischargeRequest || (s.mon.prot.recoveryArmed && !s.mon.prot.lockout) }.settleSwitches
      v.notify (.protectionClear .dischargeTrip .holdoffEnd u.monNow v.mon.prot.switches.discharge))) ∧
    (s.mon.prot.chargeHoldoff = some d → exec .chargeHoldoffExpiry s = .next
      (let v := { u with mon.prot.chargeHoldoff := none, mon.prot.chargeTrip := false }.settleSwitches
      v.notify (.protectionClear .chargeTrip .holdoffEnd u.monNow v.mon.prot.switches.discharge)))) ∧
  ∀ (s : State) (condition : Condition) (measurement : Option Int),
    let p := s.mon.prot
    let fresh := p.recentTrips.filter fun t => decide ((s.monNow - t).toNat < 10000)
    let third := decide (2 ≤ fresh.length)
    let v := { s with
      mon.prot.dischargeTrip := true
      mon.prot.dischargeRequest := false
      mon.prot.dischargeHoldoff := some (s.monNow + 1000)
      mon.prot.recoveryArmed := p.settings.autoRecovery && !third
      mon.prot.lockout := p.lockout || third
      mon.prot.recentTrips := if third then [] else fresh ++ [s.monNow] }.settleSwitches
    s.dischargeTrip condition measurement =
      v.notify (.protectionTrip condition .dischargeOff measurement s.monNow (third && !p.lockout) 1000) ∧
    (p.lockout = false → p.duvCut = false → s.protectInput = s) ∧
    (p.lockout = true ∨ p.duvCut = true →
      let v := { s with
        mon.prot.lockout := false
        mon.prot.duvCut := false
        mon.prot.dischargeRequest := true
        mon.prot.recentTrips := if p.lockout then [] else p.recentTrips }.settleSwitches
      let clear := fun (what : Cleared) =>
        Notice.protectionClear what .inputPresent s.monNow v.mon.prot.switches.discharge
      let w := if p.lockout then v.notify (clear .lockout) else v
      s.protectInput = if p.duvCut then w.notify (clear .duvCut) else w)

/-- The cell conditions: COV judged at a cell result, blocking at its timer's expiry, its release 150 mV below; DUV with
its hysteresis of 100 mV, the early warning 1500 ms before the cut, and the cut with its latch, its switches and its
calibration to empty, each beginning and end handed to the charger or the energy monitor (R123, R124, R127, R128, R135). That
the PROTECTION notice of COV comes before the CHARGER STATE of the hold it begins or ends is the model's choice (log 7). -/
def Obligations.CellConditionsBlockAndCut : Prop :=
  (∀ s : State,
    let p := s.mon.prot
    let under := fun (v : Option Int) (mv : Int) => ∀ x, v = some x → x < mv
    (p.covBlocking = true → ¬under s.higherCell ((p.settings.covMv : Int) - 150) → s.evalCov = s) ∧
    (p.covBlocking = true → under s.higherCell ((p.settings.covMv : Int) - 150) → s.evalCov =
      (let v := { s with mon.prot.covBlocking := false }.settleSwitches
      (v.notify (.protectionClear .covBlock .release s.monNow v.mon.prot.switches.discharge)).endHold .cov)) ∧
    (p.covBlocking = false → s.evalCov =
      { s with
        mon.prot.cov := if atLeast s.higherCell p.settings.covMv then
            some (p.cov.getD (s.monNow + BitVec.ofNat 32 p.settings.covMs))
          else none }) ∧
    (under s.higherCell p.settings.covMv ↔ atLeast s.higherCell p.settings.covMv = false) ∧
    (p.duvCut = true → s.evalDuv = s) ∧
    (p.duvCut = false → p.duv = none → ¬under s.lowerCell p.settings.duvMv → s.evalDuv = s) ∧
    (p.duvCut = false → p.duv = none → under s.lowerCell p.settings.duvMv → s.evalDuv =
      { s with
        mon.prot.duv := some ⟨s.monNow + BitVec.ofNat 32 p.settings.duvMs,
          some (s.monNow + BitVec.ofNat 32 (p.settings.duvMs - 1500))⟩ }) ∧
    (p.duvCut = false → p.duv ≠ none → under s.lowerCell ((p.settings.duvMv : Int) + 100) → s.evalDuv = s) ∧
    (p.duvCut = false → p.duv ≠ none → ¬under s.lowerCell ((p.settings.duvMv : Int) + 100) → s.evalDuv =
      if p.earlyWarning then { s with mon.prot.duv := none, mon.prot.earlyWarning := false }.settleEnergy .warningEnded
      else { s with mon.prot.duv := none })) ∧
  ∀ (s : State) (d : Time), s.nothingEarlier (s.monLeft d) = true →
    let u := s.elapse (s.monLeft d)
    (s.mon.prot.cov = some d → exec .covTimerExpiry s = .next
      ((({ u with mon.prot.covBlocking := true, mon.prot.cov := none }.settleSwitches).notify
        (.protectionTrip .cov .chargeBlocked s.higherCell u.monNow false 0)).beginHold .cov)) ∧
    (∀ cut, s.mon.prot.duv = some ⟨cut, some d⟩ → exec .duvWarningExpiry s = .next
      ({ u with mon.prot.earlyWarning := true, mon.prot.duv := some ⟨cut, none⟩ }.settleEnergy .warningBegun)) ∧
    ∀ warning, s.mon.prot.duv = some ⟨d, warning⟩ → exec .duvCutExpiry s = .next
      (let ended := if s.mon.prot.earlyWarning then { u with mon.prot.earlyWarning := false }.settleEnergy .warningEnded
        else u
      let v := ({ ended with mon.prot.duvCut := true, mon.prot.duv := none }.settleSwitches).calibrate 0
      v.notify (.protectionTrip .duv .duvCut s.lowerCell u.monNow false 0))

/-- DISCHARGE SWITCH, BALANCE SET and PROTECT SETUP: the rows of R132 with the switches after them; the balance mode with
MANUAL never holding both on, and the outputs in its reply; a transfer of 2 ms whose end makes every setting active at
once, judges the comparator's signal and sends the reply still owed. An OFF that removes the rail loses its reply (R132
to R134). AUTO keeps the settings held by the model's choice (log 17). -/
def Obligations.ProtectionRequests : Prop :=
  (∀ (s : State) (tag : Byte), s.Takes →
    let p := s.mon.prot
    exec (.dischargeSwitch tag none) s = .next (s.replied tag .badArg .none) ∧
    (let u : State := { s.owing with mon.prot.dischargeRequest := false, mon.prot.recoveryArmed := false }.settleSwitches;
      (u.pathUp = true → exec (.dischargeSwitch tag (some false)) s = .next
        (u.answered tag .ok .none)) ∧
      (u.pathUp = false → exec (.dischargeSwitch tag (some false)) s = .next u)) ∧
    (p.duvCut = true ∨ p.lockout = true →
      exec (.dischargeSwitch tag (some true)) s = .next (s.replied tag .badState .none)) ∧
    (p.duvCut = false → p.lockout = false →
      (p.dischargeHoldoff ≠ none → exec (.dischargeSwitch tag (some true)) s = .next (s.replied tag .holdoff .none)) ∧
      (p.dischargeHoldoff = none →
        let u := { s.owing with mon.prot.dischargeRequest := true }.settleSwitches
        (u.pathUp = true → exec (.dischargeSwitch tag (some true)) s = .next
          (u.answered tag .ok .none)) ∧
        (u.pathUp = false → exec (.dischargeSwitch tag (some true)) s = .next u)))) ∧
  (∀ (s : State) (tag : Byte), s.Takes →
    exec (.balanceSet tag .unnamed) s = .next (s.replied tag .badArg .none) ∧
    (∀ b, exec (.balanceSet tag (.manual none b)) s = .next (s.replied tag .badArg .none) ∧
      exec (.balanceSet tag (.manual b none)) s = .next (s.replied tag .badArg .none)) ∧
    (∀ (arg : BalanceArg) (mode : BalanceMode) (c1 c2 : Bool),
      (arg = .auto ∧ mode = .auto ∧ c1 = s.mon.prot.manual1 ∧ c2 = s.mon.prot.manual2) ∨
        (mode = .manual ∧ ∃ a b, arg = .manual (some a) (some b) ∧ c1 = (a && !b) ∧ c2 = (b && !a)) →
      let u := { s.owing with
        mon.prot.balanceMode := mode, mon.prot.manual1 := c1, mon.prot.manual2 := c2 }.settleSwitches
      u.pathUp = true → exec (.balanceSet tag arg) s = .next
        (u.answered tag .ok
          (.balance mode c1 c2 u.mon.prot.switches.balance1 u.mon.prot.switches.balance2)))) ∧
  (∀ (s : State) (tag : Byte) (a : ProtectArgs), s.Takes →
    let good := 4000 ≤ a.scMa ∧ a.scMa ≤ 24000 ∧ 1 ≤ a.scSteps ∧ a.scSteps ≤ 63 ∧ 500 ≤ a.docMa ∧ a.docMa ≤ 15000 ∧
      1 ≤ a.docMs ∧ a.docMs ≤ 255 ∧ 200 ≤ a.cocMa ∧ a.cocMa ≤ 8000 ∧ 1 ≤ a.cocMs ∧ a.cocMs ≤ 255 ∧
      4200 ≤ a.covMv ∧ a.covMv ≤ 4450 ∧ 100 ≤ a.covMs ∧ a.covMs ≤ 5000 ∧ 2700 ≤ a.duvMv ∧ a.duvMv ≤ 3300 ∧
      (a.duvMs = 2000 ∨ a.duvMs = 3000 ∨ a.duvMs = 4000 ∨ a.duvMs = 6000)
    (¬good ∨ a.autoRecovery = none → exec (.protectSetup tag a) s = .next (s.replied tag .badArg .none)) ∧
    ∀ auto, good → a.autoRecovery = some auto →
      (s.mon.prot.transfer ≠ none → exec (.protectSetup tag a) s = .next (s.replied tag .busy .none)) ∧
      (s.mon.prot.transfer = none → exec (.protectSetup tag a) s = .next
        { s.owing with
          path.link.protectTag := some tag
          mon.prot.transfer := some ⟨⟨a.scMa, a.scSteps, a.docMa, a.docMs, a.cocMa, a.cocMs, a.covMv, a.covMs, a.duvMv,
            a.duvMs, auto⟩, s.monNow + 2⟩ })) ∧
  ∀ (s : State) (t : Transfer) (signal : Bool), s.mon.prot.transfer = some t →
    s.nothingEarlier (s.monLeft t.deadline) = true →
    let u := s.elapse (s.monLeft t.deadline)
    let v : State :=
      { u with
        pins.scSignal := signal
        mon.prot.settings := t.settings
        mon.prot.transfer := none
        mon.prot.scLeft := if s.pins.scSignal = signal then u.mon.prot.scLeft
          else if signal = false then none
          else if s.mon.prot.switches.discharge = true then some (50 * t.settings.scSteps)
          else u.mon.prot.scLeft }
    (s.path.link.protectTag = none → exec (.protectTransferExpiry signal) s = .next v) ∧
    ∀ tag, s.path.link.protectTag = some tag → s.pathUp = true → exec (.protectTransferExpiry signal) s = .next
      (({ v with path.link.protectTag := none } : State).answered tag .ok .none)

/-! ### Charging (09) -/

/-- A change of charger state, in its one order: the effects of the state entered, setpoint and demand, the switches, the
CHARGER STATE notice, and at DONE the calibration to full; and the events that make one: the end of QUALIFY, the two
charge timers, the weak input, the clearing of a hold, and the cells in PRECHARGE, CC and DONE; with the balance demand by
the table of R148 (R137 to R143, R145 to R148, R150). That the end of QUALIFY reports HOLD_ENTERED or QUALIFIED is log 16 (DEDUCED), and that the CHARGER STATE
notice comes before any ENERGY STATE notice of the calibration is log 7 (DESIGN CHOICE). -/
def Obligations.ChargerChangesItsState : Prop :=
  (∀ (s : State) (new : ChargerState) (cause : ChargerCause) (causes : HoldCauses),
    (s.mon.chg.state = new → s.moveCharger new cause causes = s) ∧
    (s.mon.chg.state ≠ new →
      let c := s.mon.chg
      let fresh := new = .noInput ∨ new = .inhibited
      let ended := fresh ∨ new = .done ∨ new = .fault
      let paused := new = .qualify ∨ new = .hold
      let kept := fun (t : ChargeTimer) => match t with
        | .running d => if paused then .paused (d - s.monNow) else t
        | t => t
      let run := fun (t : ChargeTimer) (minutes : Nat) => match t with
        | .absent => .running (s.monNow + BitVec.ofNat 32 (60000 * minutes))
        | .paused left => .running (s.monNow + left)
        | t => t
      let c' : Charger :=
        { c with
          state := new
          qualify := if fresh then none
            else if new = .qualify then some (s.monNow + 500) else c.qualify
          prechargeTimer := if ended then .absent
            else if c.state = .precharge ∧ new = .cc then .absent
            else if new = .precharge then run c.prechargeTimer c.settings.prechargeMin else kept c.prechargeTimer
          fastTimer := if ended then .absent
            else if new = .cc then run c.fastTimer c.settings.fastMin else kept c.fastTimer
          zero := if fresh ∨ c.state = .cc ∨ new = .cc ∨ new = .cv ∨ new = .hold then none else c.zero
          weakClear := if fresh then none else c.weakClear
          causes := if fresh ∨ new = .qualify then .empty else if new = .hold then causes else c.causes
          lowCount := if fresh ∨ new = .cv ∨ new = .done then 0 else c.lowCount
          iFloor := if new = .cc then c.iccEff else c.iFloor
          setpoint := if new = .cc then c.iccEff else 0
          demand := if new = .cv ∨ new = .done then nextDemand c.demand (s.latest .cell1) (s.latest .cell2) else .none }
      let u := ({ s with mon.chg := c' }.settleSwitches).notify
        (.chargerState new c.state cause c'.causes c'.setpoint s.monNow)
      s.moveCharger new cause causes =
        if new = .done then u.calibrate ((s.mon.conv.capacity : Int) * 1000) else u)) ∧
  (∀ a b : Int,
    let dV := a - b
    nextDemand .none (some a) (some b) = (if 30 < dV then .cell1 else if dV < -30 then .cell2 else .none) ∧
    nextDemand .cell1 (some a) (some b) = (if dV < -30 then .cell2 else if dV < 10 then .none else .cell1) ∧
    nextDemand .cell2 (some a) (some b) = (if 30 < dV then .cell1 else if -10 < dV then .none else .cell2)) ∧
  (∀ held cell1 cell2, cell1 = none ∨ cell2 = none → nextDemand held cell1 cell2 = .none) ∧
  (∀ (s : State) (d : Time), s.nothingEarlier (s.monLeft d) = true →
    let u := s.elapse (s.monLeft d)
    let c := s.mon.chg
    (c.qualify = some d →
      let v : State := { u with mon.chg.qualify := none }
      let bad := c.windowInside = false ∨ c.dieHot = true ∨ s.mon.prot.covBlocking = true
      let lower := ∀ x, s.lowerCell = some x → x < c.settings.prechargeMv
      exec .qualifyDeadlineExpiry s = .next
        (if bad then
          v.moveCharger .hold .holdEntered ⟨!c.windowInside, c.dieHot, s.mon.prot.covBlocking, false⟩
        else if atLeast s.lowerCell c.settings.prechargeMv then v.moveCharger .cc .qualified .empty
        else v.moveCharger .precharge .qualified .empty) ∧
      (lower ↔ atLeast s.lowerCell c.settings.prechargeMv = false)) ∧
    (c.prechargeTimer = .running d →
      exec .prechargeTimerExpiry s = .next (u.moveCharger .fault .prechargeTimer .empty)) ∧
    (c.fastTimer = .running d → exec .fastTimerExpiry s = .next (u.moveCharger .fault .fastTimer .empty)) ∧
    (c.zero = some d → c.state = .cc → exec .zeroDeadlineExpiry s = .next
      ({ u with mon.chg.zero := none, mon.chg.weakClear := some (u.monNow + 5000) }.moveCharger .hold .holdEntered
        ⟨false, false, false, true⟩)) ∧
    (c.weakClear = some d → c.state ≠ .hold →
      exec .weakClearExpiry s = .next { u with mon.chg.weakClear := none }) ∧
    (c.weakClear = some d → c.state = .hold →
      let v : State := { u with mon.chg.weakClear := none, mon.chg.causes.inputWeak := false }
      exec .weakClearExpiry s = .next
        (if c.causes.temp || c.causes.die || c.causes.cov then v else v.moveCharger .qualify .holdCleared .empty))) ∧
  ∀ s : State,
    let c := s.mon.chg
    (c.state = .precharge → s.chargerCell =
      if atLeast s.lowerCell ((c.settings.prechargeMv : Int) + 100) then s.moveCharger .cc .prechargeDone .empty else s) ∧
    (c.state = .cc → s.chargerCell =
      if atLeast s.higherCell c.settings.vcv then s.moveCharger .cv .cvReached .empty else s) ∧
    (c.state = .done → atLeast s.higherCell ((c.settings.vcv : Int) - 150) = false →
      s.chargerCell = s.moveCharger .qualify .recharge .empty) ∧
    (c.state = .cv ∨ (c.state = .done ∧ atLeast s.higherCell ((c.settings.vcv : Int) - 150) = true) → s.chargerCell =
      { s with mon.chg.demand := nextDemand c.demand (s.latest .cell1) (s.latest .cell2) }.settleSwitches) ∧
    (c.state ≠ .precharge → c.state ≠ .cc → c.state ≠ .cv → c.state ≠ .done → s.chargerCell = s)

/-- CHARGE INHIBIT and CHARGE SETUP with their effects; input presence at INPUT results, three high ones in a row making it
present and one below 4000 mV absent; the floor loop of CC; and the temperatures, which open and close the window, set die
hot, halve the current and begin or end a hold (R136, R138, R144 to R147, R149). That a change of input presence goes to rail,
charger, protection and energy in this order, and so the order of their notices, is the model's choice (log 7), and so is
the cause INPUT_PRESENT for the change to INHIBITED (log 16). -/
def Obligations.ChargerInputsAndRequests : Prop :=
  (∀ (s : State) (tag : Byte), s.Takes →
    let c := s.mon.chg
    let on : State := { s.owing with mon.chg.inhibit := true }
    let off : State := { s.owing with mon.chg.inhibit := false }
    exec (.chargeInhibit tag none) s = .next (s.replied tag .badArg .none) ∧
    exec (.chargeInhibit tag (some true)) s = .next
      ((if c.state = .noInput then on else on.moveCharger .inhibited .inhibitOn .empty).answer tag .ok) ∧
    exec (.chargeInhibit tag (some false)) s = .next
      ((if c.state = .inhibited then off.moveCharger .qualify .inhibitOff .empty else off).answer tag .ok) ∧
    ∀ a : ChargeSettings,
      let good := 100 ≤ a.icc ∧ a.icc ≤ 3000 ∧ 4100 ≤ a.vcv ∧ a.vcv ≤ 4350 ∧ 20 ≤ a.iterm ∧ a.iterm ≤ 500 ∧
        2500 ≤ a.prechargeMv ∧ a.prechargeMv ≤ 3300 ∧ 1 ≤ a.prechargeMin ∧ a.prechargeMin ≤ 120 ∧ 30 ≤ a.fastMin ∧
        a.fastMin ≤ 600 ∧ 4400 ≤ a.vfloor ∧ a.vfloor ≤ 12000
      (good → exec (.chargeSetup tag a) s = .next
        ({ s with mon.chg.settings := a }.settleIccEff.replied tag .ok .none)) ∧
      (¬good → exec (.chargeSetup tag a) s = .next (s.replied tag .badArg .none))) ∧
  (∀ s : State,
    let hot := (∃ t, s.latest .battTemp = some t ∧ 400 < t) ∨ ∃ t, s.latest .dieTemp = some t ∧ 950 < t
    let c := s.mon.chg
    ∀ eff : Nat, (hot → eff = c.settings.icc / 2) → (¬hot → eff = c.settings.icc) →
      s.settleIccEff =
        { s with
          mon.chg.iccEff := eff
          mon.chg.iFloor := min c.iFloor eff
          mon.chg.setpoint := if c.state = .cc then min eff (min c.iFloor eff) else 0 }) ∧
  (∀ (s : State) (t : Int),
    let inside := if s.mon.chg.windowInside then decide (0 ≤ t ∧ t ≤ 450) else decide (20 ≤ t ∧ t ≤ 430)
    let hot := if 1100 ≤ t then true else if t < 1000 then false else s.mon.chg.dieHot
    let u := { s with mon.chg.windowInside := inside }.settleIccEff
    let v := { s with mon.chg.dieHot := hot }.settleIccEff
    s.chargerBattTemp t =
      (if s.mon.chg.windowInside = inside then u else if inside then u.endHold .temp else u.beginHold .temp) ∧
    s.chargerDieTemp t = (if s.mon.chg.dieHot = hot then v else if hot then v.beginHold .die else v.endHold .die)) ∧
  (∀ (s : State) (cause : HoldCause),
    let c := s.mon.chg
    (c.state = .precharge ∨ c.state = .cc ∨ c.state = .cv →
      s.beginHold cause = s.moveCharger .hold .holdEntered (HoldCauses.empty.put cause true) ∧ s.endHold cause = s) ∧
    (c.state = .hold →
      s.beginHold cause = { s with mon.chg.causes := c.causes.put cause true } ∧
      let u : State := { s with mon.chg.causes := c.causes.put cause false }
      s.endHold cause = if c.causes.put cause false = .empty then u.moveCharger .qualify .holdCleared .empty else u) ∧
    (c.state ≠ .precharge → c.state ≠ .cc → c.state ≠ .cv → c.state ≠ .hold →
      s.beginHold cause = s ∧ s.endHold cause = s)) ∧
  ∀ (s : State) (mv : Int),
    let c := s.mon.chg
    let looped := fun u : State =>
      let step := c.settings.icc / 16
      let k := u.mon.chg
      let floor := if mv < c.settings.vfloor then k.iFloor - step
        else if (c.settings.vfloor : Int) + 200 ≤ mv then min k.iccEff (k.iFloor + step) else k.iFloor
      if k.state = .cc then
        { u with
          mon.chg.iFloor := floor
          mon.chg.zero := if 0 < floor then none else if k.iFloor = 0 then k.zero else some (u.monNow + 2000)
          mon.chg.setpoint := min k.iccEff floor }
      else u
    (c.inputPresent = true → 4000 ≤ mv → s.chargerInput mv = looped s) ∧
    (c.inputPresent = true → mv < 4000 → s.chargerInput mv =
      looped (({ s with mon.chg.inputPresent := false, mon.chg.highCount := 0 }.settleRail.moveCharger .noInput
        .inputAbsent .empty).settleEnergy .inputAbsent)) ∧
    (c.inputPresent = false → mv < 4300 → s.chargerInput mv = looped { s with mon.chg.highCount := 0 }) ∧
    (c.inputPresent = false → 4300 ≤ mv → c.highCount < 2 →
      s.chargerInput mv = looped { s with mon.chg.highCount := c.highCount + 1 }) ∧
    (c.inputPresent = false → 4300 ≤ mv → 2 ≤ c.highCount →
      let u := { s with mon.chg.inputPresent := true, mon.chg.highCount := 3 }.settleRail
      let v := if c.state = .noInput then
          u.moveCharger (if c.inhibit then .inhibited else .qualify) .inputPresent .empty else u
      s.chargerInput mv = looped (v.protectInput.settleEnergy .inputPresent))
end

