-- ==== Sys2Proof/Laws/State.lean ====
section
/-! SUPPORT. Reading a part of the state after another part has been rewritten: one lemma per part and rewriting, true by
rfl, so that no later proof unfolds a record update. -/

set_option Elab.async false

namespace Sys2Proof.Machine.State

section
variable (s : State) (f : Intake → Intake)
@[simp] theorem onIntake_intake : (s.onIntake f).path.intake = f s.path.intake := rfl
@[simp] theorem onIntake_engine : (s.onIntake f).path.engine = s.path.engine := rfl
@[simp] theorem onIntake_window : (s.onIntake f).path.window = s.path.window := rfl
@[simp] theorem onIntake_slots : (s.onIntake f).path.slots = s.path.slots := rfl
@[simp] theorem onIntake_card : (s.onIntake f).path.card = s.path.card := rfl
@[simp] theorem onIntake_link : (s.onIntake f).path.link = s.path.link := rfl
@[simp] theorem onIntake_conv : (s.onIntake f).mon.conv = s.mon.conv := rfl
@[simp] theorem onIntake_prot : (s.onIntake f).mon.prot = s.mon.prot := rfl
@[simp] theorem onIntake_chg : (s.onIntake f).mon.chg = s.mon.chg := rfl
@[simp] theorem onIntake_energy : (s.onIntake f).mon.energy = s.mon.energy := rfl
@[simp] theorem onIntake_pins : (s.onIntake f).pins = s.pins := rfl
@[simp] theorem onIntake_pending : (s.onIntake f).pending = s.pending := rfl
@[simp] theorem onIntake_mon : (s.onIntake f).mon = s.mon := rfl
@[simp] theorem onIntake_pathUp : (s.onIntake f).pathUp = s.pathUp := rfl
@[simp] theorem onIntake_monNow : (s.onIntake f).monNow = s.monNow := rfl
@[simp] theorem onIntake_slot (i : Fin 4) : (s.onIntake f).slot i = s.slot i := rfl
end

section
variable (s : State) (f : Engine → Engine)
@[simp] theorem onEngine_intake : (s.onEngine f).path.intake = s.path.intake := rfl
@[simp] theorem onEngine_engine : (s.onEngine f).path.engine = f s.path.engine := rfl
@[simp] theorem onEngine_window : (s.onEngine f).path.window = s.path.window := rfl
@[simp] theorem onEngine_slots : (s.onEngine f).path.slots = s.path.slots := rfl
@[simp] theorem onEngine_card : (s.onEngine f).path.card = s.path.card := rfl
@[simp] theorem onEngine_link : (s.onEngine f).path.link = s.path.link := rfl
@[simp] theorem onEngine_conv : (s.onEngine f).mon.conv = s.mon.conv := rfl
@[simp] theorem onEngine_prot : (s.onEngine f).mon.prot = s.mon.prot := rfl
@[simp] theorem onEngine_chg : (s.onEngine f).mon.chg = s.mon.chg := rfl
@[simp] theorem onEngine_energy : (s.onEngine f).mon.energy = s.mon.energy := rfl
@[simp] theorem onEngine_pins : (s.onEngine f).pins = s.pins := rfl
@[simp] theorem onEngine_pending : (s.onEngine f).pending = s.pending := rfl
@[simp] theorem onEngine_mon : (s.onEngine f).mon = s.mon := rfl
@[simp] theorem onEngine_pathUp : (s.onEngine f).pathUp = s.pathUp := rfl
@[simp] theorem onEngine_monNow : (s.onEngine f).monNow = s.monNow := rfl
@[simp] theorem onEngine_now : (s.onEngine f).now = s.now := rfl
@[simp] theorem onEngine_slot (i : Fin 4) : (s.onEngine f).slot i = s.slot i := rfl
end

section
variable (s : State) (f : Window → Window)
@[simp] theorem onWindow_intake : (s.onWindow f).path.intake = s.path.intake := rfl
@[simp] theorem onWindow_engine : (s.onWindow f).path.engine = s.path.engine := rfl
@[simp] theorem onWindow_window : (s.onWindow f).path.window = f s.path.window := rfl
@[simp] theorem onWindow_slots : (s.onWindow f).path.slots = s.path.slots := rfl
@[simp] theorem onWindow_card : (s.onWindow f).path.card = s.path.card := rfl
@[simp] theorem onWindow_link : (s.onWindow f).path.link = s.path.link := rfl
@[simp] theorem onWindow_conv : (s.onWindow f).mon.conv = s.mon.conv := rfl
@[simp] theorem onWindow_prot : (s.onWindow f).mon.prot = s.mon.prot := rfl
@[simp] theorem onWindow_chg : (s.onWindow f).mon.chg = s.mon.chg := rfl
@[simp] theorem onWindow_energy : (s.onWindow f).mon.energy = s.mon.energy := rfl
@[simp] theorem onWindow_pins : (s.onWindow f).pins = s.pins := rfl
@[simp] theorem onWindow_pending : (s.onWindow f).pending = s.pending := rfl
@[simp] theorem onWindow_mon : (s.onWindow f).mon = s.mon := rfl
@[simp] theorem onWindow_pathUp : (s.onWindow f).pathUp = s.pathUp := rfl
@[simp] theorem onWindow_monNow : (s.onWindow f).monNow = s.monNow := rfl
@[simp] theorem onWindow_now : (s.onWindow f).now = s.now := rfl
@[simp] theorem onWindow_slot (i : Fin 4) : (s.onWindow f).slot i = s.slot i := rfl
end

section
variable (s : State) (f : Card → Card)
@[simp] theorem onCard_intake : (s.onCard f).path.intake = s.path.intake := rfl
@[simp] theorem onCard_engine : (s.onCard f).path.engine = s.path.engine := rfl
@[simp] theorem onCard_window : (s.onCard f).path.window = s.path.window := rfl
@[simp] theorem onCard_slots : (s.onCard f).path.slots = s.path.slots := rfl
@[simp] theorem onCard_card : (s.onCard f).path.card = f s.path.card := rfl
@[simp] theorem onCard_link : (s.onCard f).path.link = s.path.link := rfl
@[simp] theorem onCard_conv : (s.onCard f).mon.conv = s.mon.conv := rfl
@[simp] theorem onCard_prot : (s.onCard f).mon.prot = s.mon.prot := rfl
@[simp] theorem onCard_chg : (s.onCard f).mon.chg = s.mon.chg := rfl
@[simp] theorem onCard_energy : (s.onCard f).mon.energy = s.mon.energy := rfl
@[simp] theorem onCard_pins : (s.onCard f).pins = s.pins := rfl
@[simp] theorem onCard_pending : (s.onCard f).pending = s.pending := rfl
@[simp] theorem onCard_mon : (s.onCard f).mon = s.mon := rfl
@[simp] theorem onCard_pathUp : (s.onCard f).pathUp = s.pathUp := rfl
@[simp] theorem onCard_monNow : (s.onCard f).monNow = s.monNow := rfl
@[simp] theorem onCard_now : (s.onCard f).now = s.now := rfl
@[simp] theorem onCard_slot (i : Fin 4) : (s.onCard f).slot i = s.slot i := rfl
end

section
variable (s : State) (f : Link → Link)
@[simp] theorem onLink_intake : (s.onLink f).path.intake = s.path.intake := rfl
@[simp] theorem onLink_engine : (s.onLink f).path.engine = s.path.engine := rfl
@[simp] theorem onLink_window : (s.onLink f).path.window = s.path.window := rfl
@[simp] theorem onLink_slots : (s.onLink f).path.slots = s.path.slots := rfl
@[simp] theorem onLink_card : (s.onLink f).path.card = s.path.card := rfl
@[simp] theorem onLink_link : (s.onLink f).path.link = f s.path.link := rfl
@[simp] theorem onLink_conv : (s.onLink f).mon.conv = s.mon.conv := rfl
@[simp] theorem onLink_prot : (s.onLink f).mon.prot = s.mon.prot := rfl
@[simp] theorem onLink_chg : (s.onLink f).mon.chg = s.mon.chg := rfl
@[simp] theorem onLink_energy : (s.onLink f).mon.energy = s.mon.energy := rfl
@[simp] theorem onLink_pins : (s.onLink f).pins = s.pins := rfl
@[simp] theorem onLink_pending : (s.onLink f).pending = s.pending := rfl
@[simp] theorem onLink_mon : (s.onLink f).mon = s.mon := rfl
@[simp] theorem onLink_pathUp : (s.onLink f).pathUp = s.pathUp := rfl
@[simp] theorem onLink_monNow : (s.onLink f).monNow = s.monNow := rfl
@[simp] theorem onLink_now : (s.onLink f).now = s.now := rfl
@[simp] theorem onLink_slot (i : Fin 4) : (s.onLink f).slot i = s.slot i := rfl
end

section
variable (s : State) (f : Converter → Converter)
@[simp] theorem onConv_intake : (s.onConv f).path.intake = s.path.intake := rfl
@[simp] theorem onConv_engine : (s.onConv f).path.engine = s.path.engine := rfl
@[simp] theorem onConv_window : (s.onConv f).path.window = s.path.window := rfl
@[simp] theorem onConv_slots : (s.onConv f).path.slots = s.path.slots := rfl
@[simp] theorem onConv_card : (s.onConv f).path.card = s.path.card := rfl
@[simp] theorem onConv_link : (s.onConv f).path.link = s.path.link := rfl
@[simp] theorem onConv_conv : (s.onConv f).mon.conv = f s.mon.conv := rfl
@[simp] theorem onConv_prot : (s.onConv f).mon.prot = s.mon.prot := rfl
@[simp] theorem onConv_chg : (s.onConv f).mon.chg = s.mon.chg := rfl
@[simp] theorem onConv_energy : (s.onConv f).mon.energy = s.mon.energy := rfl
@[simp] theorem onConv_pins : (s.onConv f).pins = s.pins := rfl
@[simp] theorem onConv_pending : (s.onConv f).pending = s.pending := rfl
@[simp] theorem onConv_path : (s.onConv f).path = s.path := rfl
@[simp] theorem onConv_now : (s.onConv f).now = s.now := rfl
@[simp] theorem onConv_slot (i : Fin 4) : (s.onConv f).slot i = s.slot i := rfl
end

section
variable (s : State) (f : Protection → Protection)
@[simp] theorem onProt_intake : (s.onProt f).path.intake = s.path.intake := rfl
@[simp] theorem onProt_engine : (s.onProt f).path.engine = s.path.engine := rfl
@[simp] theorem onProt_window : (s.onProt f).path.window = s.path.window := rfl
@[simp] theorem onProt_slots : (s.onProt f).path.slots = s.path.slots := rfl
@[simp] theorem onProt_card : (s.onProt f).path.card = s.path.card := rfl
@[simp] theorem onProt_link : (s.onProt f).path.link = s.path.link := rfl
@[simp] theorem onProt_conv : (s.onProt f).mon.conv = s.mon.conv := rfl
@[simp] theorem onProt_prot : (s.onProt f).mon.prot = f s.mon.prot := rfl
@[simp] theorem onProt_chg : (s.onProt f).mon.chg = s.mon.chg := rfl
@[simp] theorem onProt_energy : (s.onProt f).mon.energy = s.mon.energy := rfl
@[simp] theorem onProt_pins : (s.onProt f).pins = s.pins := rfl
@[simp] theorem onProt_pending : (s.onProt f).pending = s.pending := rfl
@[simp] theorem onProt_path : (s.onProt f).path = s.path := rfl
@[simp] theorem onProt_now : (s.onProt f).now = s.now := rfl
@[simp] theorem onProt_pathUp : (s.onProt f).pathUp = s.pathUp := rfl
@[simp] theorem onProt_monNow : (s.onProt f).monNow = s.monNow := rfl
@[simp] theorem onProt_slot (i : Fin 4) : (s.onProt f).slot i = s.slot i := rfl
end

section
variable (s : State) (f : Charger → Charger)
@[simp] theorem onChg_intake : (s.onChg f).path.intake = s.path.intake := rfl
@[simp] theorem onChg_engine : (s.onChg f).path.engine = s.path.engine := rfl
@[simp] theorem onChg_window : (s.onChg f).path.window = s.path.window := rfl
@[simp] theorem onChg_slots : (s.onChg f).path.slots = s.path.slots := rfl
@[simp] theorem onChg_card : (s.onChg f).path.card = s.path.card := rfl
@[simp] theorem onChg_link : (s.onChg f).path.link = s.path.link := rfl
@[simp] theorem onChg_conv : (s.onChg f).mon.conv = s.mon.conv := rfl
@[simp] theorem onChg_prot : (s.onChg f).mon.prot = s.mon.prot := rfl
@[simp] theorem onChg_chg : (s.onChg f).mon.chg = f s.mon.chg := rfl
@[simp] theorem onChg_energy : (s.onChg f).mon.energy = s.mon.energy := rfl
@[simp] theorem onChg_pins : (s.onChg f).pins = s.pins := rfl
@[simp] theorem onChg_pending : (s.onChg f).pending = s.pending := rfl
@[simp] theorem onChg_path : (s.onChg f).path = s.path := rfl
@[simp] theorem onChg_now : (s.onChg f).now = s.now := rfl
@[simp] theorem onChg_pathUp : (s.onChg f).pathUp = s.pathUp := rfl
@[simp] theorem onChg_monNow : (s.onChg f).monNow = s.monNow := rfl
@[simp] theorem onChg_slot (i : Fin 4) : (s.onChg f).slot i = s.slot i := rfl
end

section
variable (s : State) (f : Energy → Energy)
@[simp] theorem onEnergy_intake : (s.onEnergy f).path.intake = s.path.intake := rfl
@[simp] theorem onEnergy_engine : (s.onEnergy f).path.engine = s.path.engine := rfl
@[simp] theorem onEnergy_window : (s.onEnergy f).path.window = s.path.window := rfl
@[simp] theorem onEnergy_slots : (s.onEnergy f).path.slots = s.path.slots := rfl
@[simp] theorem onEnergy_card : (s.onEnergy f).path.card = s.path.card := rfl
@[simp] theorem onEnergy_link : (s.onEnergy f).path.link = s.path.link := rfl
@[simp] theorem onEnergy_conv : (s.onEnergy f).mon.conv = s.mon.conv := rfl
@[simp] theorem onEnergy_prot : (s.onEnergy f).mon.prot = s.mon.prot := rfl
@[simp] theorem onEnergy_chg : (s.onEnergy f).mon.chg = s.mon.chg := rfl
@[simp] theorem onEnergy_energy : (s.onEnergy f).mon.energy = f s.mon.energy := rfl
@[simp] theorem onEnergy_pins : (s.onEnergy f).pins = s.pins := rfl
@[simp] theorem onEnergy_pending : (s.onEnergy f).pending = s.pending := rfl
@[simp] theorem onEnergy_path : (s.onEnergy f).path = s.path := rfl
@[simp] theorem onEnergy_now : (s.onEnergy f).now = s.now := rfl
@[simp] theorem onEnergy_slot (i : Fin 4) : (s.onEnergy f).slot i = s.slot i := rfl
end

section
variable (s : State) (f : Pins → Pins)
@[simp] theorem onPins_intake : (s.onPins f).path.intake = s.path.intake := rfl
@[simp] theorem onPins_engine : (s.onPins f).path.engine = s.path.engine := rfl
@[simp] theorem onPins_window : (s.onPins f).path.window = s.path.window := rfl
@[simp] theorem onPins_slots : (s.onPins f).path.slots = s.path.slots := rfl
@[simp] theorem onPins_card : (s.onPins f).path.card = s.path.card := rfl
@[simp] theorem onPins_link : (s.onPins f).path.link = s.path.link := rfl
@[simp] theorem onPins_conv : (s.onPins f).mon.conv = s.mon.conv := rfl
@[simp] theorem onPins_prot : (s.onPins f).mon.prot = s.mon.prot := rfl
@[simp] theorem onPins_chg : (s.onPins f).mon.chg = s.mon.chg := rfl
@[simp] theorem onPins_energy : (s.onPins f).mon.energy = s.mon.energy := rfl
@[simp] theorem onPins_pins : (s.onPins f).pins = f s.pins := rfl
@[simp] theorem onPins_pending : (s.onPins f).pending = s.pending := rfl
@[simp] theorem onPins_path : (s.onPins f).path = s.path := rfl
@[simp] theorem onPins_mon : (s.onPins f).mon = s.mon := rfl
@[simp] theorem onPins_pathUp : (s.onPins f).pathUp = s.pathUp := rfl
@[simp] theorem onPins_monNow : (s.onPins f).monNow = s.monNow := rfl
@[simp] theorem onPins_now : (s.onPins f).now = s.now := rfl
@[simp] theorem onPins_slot (i : Fin 4) : (s.onPins f).slot i = s.slot i := rfl
end

section
variable (s : State) (i : Fin 4) (f : Slot → Slot)
@[simp] theorem onSlot_intake : (s.onSlot i f).path.intake = s.path.intake := rfl
@[simp] theorem onSlot_engine : (s.onSlot i f).path.engine = s.path.engine := rfl
@[simp] theorem onSlot_window : (s.onSlot i f).path.window = s.path.window := rfl
@[simp] theorem onSlot_card : (s.onSlot i f).path.card = s.path.card := rfl
@[simp] theorem onSlot_link : (s.onSlot i f).path.link = s.path.link := rfl
@[simp] theorem onSlot_conv : (s.onSlot i f).mon.conv = s.mon.conv := rfl
@[simp] theorem onSlot_prot : (s.onSlot i f).mon.prot = s.mon.prot := rfl
@[simp] theorem onSlot_chg : (s.onSlot i f).mon.chg = s.mon.chg := rfl
@[simp] theorem onSlot_energy : (s.onSlot i f).mon.energy = s.mon.energy := rfl
@[simp] theorem onSlot_pins : (s.onSlot i f).pins = s.pins := rfl
@[simp] theorem onSlot_pending : (s.onSlot i f).pending = s.pending := rfl
@[simp] theorem onSlot_mon : (s.onSlot i f).mon = s.mon := rfl
@[simp] theorem onSlot_slots : (s.onSlot i f).path.slots = s.path.slots.set i (f (s.slot i)) := rfl
@[simp] theorem onSlot_pathUp : (s.onSlot i f).pathUp = s.pathUp := rfl
@[simp] theorem onSlot_now : (s.onSlot i f).now = s.now := rfl
@[simp] theorem onSlot_monNow : (s.onSlot i f).monNow = s.monNow := rfl

/-- The slot rewritten. -/
@[simp] theorem onSlot_slot_self : (s.onSlot i f).slot i = f (s.slot i) := by
  simp [State.slot, State.onSlot]

/-- Every other slot. -/
theorem onSlot_slot_of_ne {j : Fin 4} (h : j ≠ i) : (s.onSlot i f).slot j = s.slot j := by
  have : (i : Nat) ≠ j := fun e => h (Fin.ext e.symm)
  simp [State.slot, State.onSlot, this]
end

/-! ### The domains -/

section
variable (s : State) (cause : ResetCause)
@[simp] theorem beginPathReset_path : (s.beginPathReset cause).path = .afterReset := rfl
@[simp] theorem beginPathReset_conv : (s.beginPathReset cause).mon.conv = s.mon.conv := rfl
@[simp] theorem beginPathReset_prot : (s.beginPathReset cause).mon.prot = s.mon.prot := rfl
@[simp] theorem beginPathReset_chg : (s.beginPathReset cause).mon.chg = s.mon.chg := rfl
@[simp] theorem beginPathReset_pending : (s.beginPathReset cause).pending = s.pending := rfl
@[simp] theorem beginPathReset_pins : (s.beginPathReset cause).pins = s.pins := rfl
@[simp] theorem beginPathReset_railUp : (s.beginPathReset cause).mon.energy.railUp = s.mon.energy.railUp := rfl
@[simp] theorem loseRail_path : s.loseRail.path = .afterReset := rfl
@[simp] theorem loseRail_conv : s.loseRail.mon.conv = s.mon.conv := rfl
@[simp] theorem loseRail_prot : s.loseRail.mon.prot = s.mon.prot := rfl
@[simp] theorem loseRail_chg : s.loseRail.mon.chg = s.mon.chg := rfl
@[simp] theorem loseRail_pending : s.loseRail.pending = s.pending := rfl
@[simp] theorem loseRail_pins : s.loseRail.pins = s.pins := rfl
@[simp] theorem loseRail_railUp : s.loseRail.mon.energy.railUp = false := rfl
@[simp] theorem returnRail_path : s.returnRail.path = .afterReset := rfl
@[simp] theorem returnRail_conv : s.returnRail.mon.conv = s.mon.conv := rfl
@[simp] theorem returnRail_prot : s.returnRail.mon.prot = s.mon.prot := rfl
@[simp] theorem returnRail_chg : s.returnRail.mon.chg = s.mon.chg := rfl
@[simp] theorem returnRail_pending : s.returnRail.pending = s.pending := rfl
@[simp] theorem returnRail_pins : s.returnRail.pins = s.pins := rfl
@[simp] theorem returnRail_railUp : s.returnRail.mon.energy.railUp = true := rfl
end

end Sys2Proof.Machine.State
end

