-- ==== Sys2Proof/Laws/Ops.lean ====
section
/-! SUPPORT. One lemma per operation that every block shares, saying once everything the operation can do: which of its
cases holds and what it answers there. -/

set_option Elab.async false

namespace Sys2Proof.Machine

/-- clamp answers a value between its bounds (00, Arithmetic). -/
theorem clamp_bounds (v lo hi : Int) (h : lo ≤ hi) : lo ≤ clamp v lo hi ∧ clamp v lo hi ≤ hi := by
  unfold clamp; split
  · exact ⟨le_refl _, h⟩
  · split <;> constructor <;> omega

/-- clamp leaves a value between its bounds as it is. -/
theorem clamp_of_mem (v lo hi : Int) (h1 : lo ≤ v) (h2 : v ≤ hi) : clamp v lo hi = v := by
  unfold clamp; rw [if_neg (by omega), if_neg (by omega)]

/-- A saturating counter never falls, and stays at its maximum (00, Counters). -/
theorem satAdd_cases (n k : Nat) :
    (n + k ≤ counterMax ∧ satAdd n k = n + k) ∨ (counterMax < n + k ∧ satAdd n k = counterMax) := by
  unfold satAdd; omega

/-- A time is never before itself, and of two times at most one is before the other (R1). -/
theorem before_asymm (a b : Time) (h : before a b = true) : before b a = false := by
  simp only [before, decide_eq_true_eq, decide_eq_false_iff_not] at *
  have h1 : (b - a).toNat = (2 ^ 32 - a.toNat + b.toNat) % 2 ^ 32 := BitVec.toNat_sub ..
  have h2 : (a - b).toNat = (2 ^ 32 - b.toNat + a.toNat) % 2 ^ 32 := BitVec.toNat_sub ..
  have := a.isLt; have := b.isLt
  omega

/-- An offer to the notice queue: held at the tail, or dropped and counted twice (R163). -/
theorem Link.offer_cases (l : Link) (n : Notice) :
    (l.notices.length < Config.noticeLimit ∧ l.offer n = { l with notices := l.notices ++ [n] }) ∨
    (Config.noticeLimit ≤ l.notices.length ∧
      l.offer n =
        { l with lostSinceSent := min (l.lostSinceSent + 1) Config.lostMax, noticesLost := satAdd l.noticesLost 1 }) := by
  unfold Link.offer; split
  · exact .inl ⟨‹_›, rfl⟩
  · exact .inr ⟨by omega, rfl⟩

/-- An entry joins the tail of the write queue and takes the next sequence number; nothing else of the card engine
changes (R76). -/
theorem Card.join_queue (c : Card) (o : Owner) (a n : Nat) (d : EntryData) :
    (c.join o a n d).queue = c.queue ++ [⟨c.nextSeq, o, a, n, d⟩] ∧ (c.join o a n d).nextSeq = c.nextSeq + 1 ∧
    { c.join o a n d with queue := c.queue, nextSeq := c.nextSeq } = c := ⟨rfl, rfl, rfl⟩

/-- A slot index is none exactly at 4 and above (R56). -/
theorem slotIndex_cases (n : Nat) : (∃ i : Fin 4, i.val = n ∧ slotIndex n = some i) ∨ (4 ≤ n ∧ slotIndex n = none) := by
  unfold slotIndex; split
  · exact .inl ⟨⟨n, ‹_›⟩, rfl, rfl⟩
  · exact .inr ⟨by omega, rfl⟩

@[simp] theorem slotIndex_val (i : Fin 4) : slotIndex i = some i := by simp [slotIndex]

/-- The retained list gains exactly the one entry, in place of any the slot had (R155). -/
theorem mem_insertRetained (c x : RetainedClip) (l : List RetainedClip) :
    x ∈ insertRetained c l ↔ x = c ∨ (x ∈ l ∧ x.slot ≠ c.slot) := by
  simp only [insertRetained, List.mem_append, List.mem_cons, List.mem_filter, decide_eq_true_eq, ne_eq]
  constructor
  · rintro (⟨h, h1⟩ | rfl | ⟨h, h1⟩)
    · exact .inr ⟨h, ne_of_lt h1⟩
    · exact .inl rfl
    · exact .inr ⟨h, (ne_of_lt h1).symm⟩
  · rintro (rfl | ⟨h, h1⟩)
    · exact .inr (.inl rfl)
    · rcases lt_or_gt_of_ne h1 with h2 | h2
      · exact .inl ⟨h, h2⟩
      · exact .inr (.inr ⟨h, h2⟩)

/-- Two runs of blocks overlap exactly when some block lies in both (R59). -/
theorem overlaps_iff (a n b m : Nat) (hn : 0 < n) (hm : 0 < m) :
    overlaps a n b m = true ↔ ∃ x, (a ≤ x ∧ x < a + n) ∧ (b ≤ x ∧ x < b + m) := by
  simp only [overlaps, decide_eq_true_eq]
  constructor
  · intro ⟨h1, h2⟩
    exact ⟨max a b, ⟨by omega, by omega⟩, by omega, by omega⟩
  · rintro ⟨x, ⟨h1, h2⟩, h3, h4⟩
    omega

namespace State

/-- Reading a slot after one slot has been rewritten. -/
theorem slot_onSlot (s : State) (i j : Fin 4) (f : Slot → Slot) :
    (s.onSlot i f).slot j = if i = j then f (s.slot i) else s.slot j := by
  simp only [slot, onSlot, Fin.getElem_fin, Vector.getElem_set]
  split
  · rw [if_pos (Fin.ext ‹_›)]
  · rw [if_neg (fun h => ‹¬_› (congrArg Fin.val h))]

/-- No time: the state as it was; some time: both time bases and the SC delay count moved (R1, R110, R125). -/
theorem elapse_cases (s : State) (us : Nat) :
    (us = 0 ∧ s.elapse us = s) ∨
    (0 < us ∧ (s.elapse us).monNow = later s.monNow ((s.mon.conv.subMs + us) / 1000) ∧
      (s.elapse us).mon.conv.subMs = (s.mon.conv.subMs + us) % 1000 ∧
      (s.elapse us).mon.prot.scLeft = s.mon.prot.scLeft.map (· - us) ∧
      (s.elapse us).now = if s.pathUp then later s.now us else s.now) := by
  by_cases h : us = 0
  · exact .inl ⟨h, by unfold elapse; exact if_pos h⟩
  · refine .inr ⟨by omega, ?_⟩
    unfold elapse
    rw [if_neg h]
    exact ⟨rfl, rfl, rfl, rfl⟩

/-- An expiry: ignored, or its owner's action once the counter has arrived (log 3). -/
theorem expiry_cases (s : State) (left : Option Nat) (act : State → State) :
    (left = none ∧ s.expiry left act = s) ∨
    (∃ us, left = some us ∧ s.nothingEarlier us = false ∧ s.expiry left act = s) ∨
    (∃ us, left = some us ∧ s.nothingEarlier us = true ∧ s.expiry left act = act (s.elapse us)) := by
  rcases left with _ | us
  · exact .inl ⟨rfl, rfl⟩
  · cases h : s.nothingEarlier us
    · exact .inr (.inl ⟨us, rfl, h, by simp [expiry, h]⟩)
    · exact .inr (.inr ⟨us, rfl, h, by simp [expiry, h]⟩)

/-- A step of the path domain: ignored while the domain is down or in reset (log 4). -/
theorem whenUp_cases (s : State) (body : State → State) :
    (s.pathUp = true ∧ s.whenUp body = body s) ∨ (s.pathUp = false ∧ s.whenUp body = s) := by
  cases h : s.pathUp
  · exact .inr ⟨rfl, by simp [whenUp, h]⟩
  · exact .inl ⟨rfl, by simp [whenUp, h]⟩

/-- A notice: offered to the link while the path domain is up, with the arbiter's choice on a free lane, and otherwise
neither offered nor counted (R135, R152, R165). -/
theorem notify_cases (s : State) (n : Notice) :
    (s.pathUp = true ∧ s.notify n = (s.onLink fun l => l.offer n).chooseUnit) ∨ (s.pathUp = false ∧ s.notify n = s) := by
  cases h : s.pathUp
  · exact .inr ⟨rfl, by simp [notify, h]⟩
  · exact .inl ⟨rfl, by simp [notify, h]⟩

/-- A reply: at the tail of the reply queue while the path domain is up, with the arbiter's choice on a free lane (R162,
R165). -/
theorem reply_cases (s : State) (tag : Byte) (code : ReplyCode) (data : ReplyData) :
    (s.pathUp = true ∧ s.reply tag code data =
      (s.onLink fun l => { l with replies := l.replies ++ [⟨tag, code, data⟩] }).chooseUnit) ∨
    (s.pathUp = false ∧ s.reply tag code data = s) := by
  cases h : s.pathUp
  · exact .inr ⟨rfl, by simp [reply, h]⟩
  · exact .inl ⟨rfl, by simp [reply, h]⟩

/-- A request: taken, lost beyond the limit, or not seen at all (R161, R168). -/
theorem request_cases (s : State) (tag : Byte) (kind : RequestKind) (body : State → State) :
    (s.pathUp = true ∧ s.path.link.outstanding < Config.outstandingLimit ∧
      s.request tag kind body = body (s.onLink fun l => { l with outstanding := l.outstanding + 1 })) ∨
    (s.pathUp = true ∧ Config.outstandingLimit ≤ s.path.link.outstanding ∧
      s.request tag kind body =
        (s.onLink fun l => { l with requestsLost := satAdd l.requestsLost 1 }).notify (.requestLost tag kind)) ∨
    (s.pathUp = false ∧ s.request tag kind body = s) := by
  cases h : s.pathUp
  · exact .inr (.inr ⟨rfl, by simp [request, h]⟩)
  · by_cases h2 : s.path.link.outstanding < Config.outstandingLimit
    · exact .inl ⟨rfl, h2, by simp [request, h, h2]⟩
    · exact .inr (.inl ⟨rfl, by omega, by simp [request, h, h2]⟩)

/-- A release: nothing for no block; otherwise the released total rises and credit becomes pending, with the arbiter's choice
on a free lane (R75, R164, R165). -/
theorem release_cases (s : State) (n : Nat) :
    (n = 0 ∧ s.release n = s) ∨
    (n ≠ 0 ∧ s.release n =
      (s.onLink fun l =>
        { l with released := l.released + BitVec.ofNat 16 n, creditPending := true }).chooseUnit) := by
  by_cases h : n = 0
  · exact .inl ⟨h, by simp [release, h]⟩
  · exact .inr ⟨h, by simp [release, h]⟩

/-- The rail follows the discharge switch and the input: it holds, returns with a path reset of cause RAIL, or is lost
with the path domain (R153). -/
theorem settleRail_cases (s : State) :
    (s.mon.energy.railUp = (s.mon.prot.switches.discharge || s.mon.chg.inputPresent) ∧ s.settleRail = s) ∨
    ((s.mon.prot.switches.discharge || s.mon.chg.inputPresent) = true ∧ s.mon.energy.railUp = false ∧
      s.settleRail = s.returnRail) ∨
    ((s.mon.prot.switches.discharge || s.mon.chg.inputPresent) = false ∧ s.mon.energy.railUp = true ∧
      s.settleRail = s.loseRail) := by
  cases h : (s.mon.prot.switches.discharge || s.mon.chg.inputPresent) <;> cases hr : s.mon.energy.railUp <;>
    simp [settleRail, h, hr]

/-- After settling, the rail is UP exactly while the discharge switch is on or input is present (R153). -/
theorem settleRail_railUp (s : State) :
    s.settleRail.mon.energy.railUp = (s.mon.prot.switches.discharge || s.mon.chg.inputPresent) := by
  rcases s.settleRail_cases with ⟨h, h'⟩ | ⟨h, _, h'⟩ | ⟨h, _, h'⟩ <;> rw [h', h] <;> rfl

/-- The path domain runs only under a rail that is UP. -/
theorem railUp_of_pathUp (s : State) (h : s.pathUp = true) : s.mon.energy.railUp = true := by
  simp only [pathUp, Bool.and_eq_true] at h; exact h.1

/-- The class a cell comes from is ready, and no class before it, from the class pointer onward, is (R165). -/
theorem cellDue_eq_some (s : State) (c : CellClass) :
    s.cellDue = some c ↔ s.classReady c = true ∧ ∃ before after,
      s.path.link.pointer.round = before ++ c :: after ∧ ∀ d ∈ before, s.classReady d = false := by
  simp [cellDue, Link.cellDue, classReady, List.find?_eq_some_iff_append]

/-- The arbiter's choice: none while the lane is occupied or nothing is ready; a cell of the first class ready where no
frame unit waits or fewer than two cells have gone since the last; otherwise the frame unit (R165). -/
theorem chooseUnit_cases (s : State) :
    (s.path.link.lane.isSome = true ∧ s.chooseUnit = s) ∨
    s.path.link.lane = none ∧
      ((s.path.link.stream = [] ∧ s.cellDue = none ∧ s.chooseUnit = s) ∨
        (∃ c, s.path.link.stream = [] ∧ s.cellDue = some c ∧ s.chooseUnit = s.beginCell c) ∨
        (∃ c, s.path.link.stream ≠ [] ∧ s.cellDue = some c ∧ s.path.link.cellsWhileFrame < Config.cellsBetween ∧
          s.chooseUnit = (s.beginCell c).onLink fun l => { l with cellsWhileFrame := s.path.link.cellsWhileFrame + 1 }) ∨
        (s.path.link.stream ≠ [] ∧ (s.cellDue = none ∨ Config.cellsBetween ≤ s.path.link.cellsWhileFrame) ∧
          s.chooseUnit = s.onLink Link.beginFrame)) := by
  simp only [chooseUnit, onLink, Link.choose, cellDue, beginCell]
  rcases hl : s.path.link.lane with _ | u
  · refine .inr ⟨rfl, ?_⟩
    rcases hs : s.path.link.stream with _ | ⟨u, rest⟩ <;> rcases hc : s.path.link.cellDue s.path.card.readBuffer with _ | c
    · exact .inl ⟨rfl, rfl, by simp⟩
    · exact .inr (.inl ⟨c, rfl, rfl, by simp⟩)
    · exact .inr (.inr (.inr ⟨List.cons_ne_nil _ _, .inl rfl, by simp⟩))
    · by_cases h : s.path.link.cellsWhileFrame < Config.cellsBetween
      · exact .inr (.inr (.inl ⟨c, List.cons_ne_nil _ _, rfl, h, by simp [h]⟩))
      · exact .inr (.inr (.inr ⟨List.cons_ne_nil _ _, .inr (by omega), by simp [h]⟩))
  · exact .inl ⟨rfl, by simp⟩

end State

end Sys2Proof.Machine
end

