-- ==== Sys2Proof/Laws/Frames.lean ====
section
/-! SUPPORT. What each shared operation leaves as it was: one lemma per operation, true in every case the operation
distinguishes, so that a proof about one part of the state never unfolds an operation on another. -/

set_option Elab.async false

namespace Sys2Proof.Machine.State

/-! ### Time, rail, replies, notices, credit -/

@[simp] theorem elapse_frame (s : State) (us : Nat) :
    (s.elapse us).pending = s.pending ∧ (s.elapse us).pins = s.pins ∧ (s.elapse us).path.engine = s.path.engine ∧
    (s.elapse us).path.window = s.path.window ∧ (s.elapse us).path.slots = s.path.slots ∧
    (s.elapse us).path.card = s.path.card ∧ (s.elapse us).path.link = s.path.link ∧
    (s.elapse us).mon.chg = s.mon.chg ∧ (s.elapse us).mon.energy = s.mon.energy ∧
    (s.elapse us).pathUp = s.pathUp := by
  unfold elapse; dsimp only; (repeat' split) <;> simp <;> rfl

@[simp] theorem settleRail_frame (s : State) :
    (s.settleRail).pending = s.pending ∧ (s.settleRail).pins = s.pins ∧ (s.settleRail).mon.conv = s.mon.conv ∧
    (s.settleRail).mon.prot = s.mon.prot ∧ (s.settleRail).mon.chg = s.mon.chg ∧
    (s.settleRail).mon.energy.state = s.mon.energy.state ∧ (s.settleRail).monNow = s.monNow := by
  refine ⟨?_, ?_, ?_, ?_, ?_, ?_, ?_⟩ <;> unfold settleRail <;>
    (first | rfl | (simp; done) | ((repeat' split) <;> rfl))

@[simp] theorem beginCell_frame (s : State) (c : CellClass) :
    (s.beginCell c).pending = s.pending ∧ (s.beginCell c).pins = s.pins ∧ (s.beginCell c).mon = s.mon ∧
    (s.beginCell c).path.intake = s.path.intake ∧ (s.beginCell c).path.engine = s.path.engine ∧
    (s.beginCell c).path.window = s.path.window ∧ (s.beginCell c).path.slots = s.path.slots ∧ (s.beginCell c).path.card = s.path.card ∧
    (s.beginCell c).pathUp = s.pathUp ∧ (s.beginCell c).monNow = s.monNow ∧ (s.beginCell c).now = s.now := by
  unfold beginCell; simp

@[simp] theorem chooseUnit_frame (s : State) :
    (s.chooseUnit).pending = s.pending ∧ (s.chooseUnit).pins = s.pins ∧ (s.chooseUnit).mon = s.mon ∧
    (s.chooseUnit).path.intake = s.path.intake ∧ (s.chooseUnit).path.engine = s.path.engine ∧
    (s.chooseUnit).path.window = s.path.window ∧ (s.chooseUnit).path.slots = s.path.slots ∧ (s.chooseUnit).path.card = s.path.card ∧
    (s.chooseUnit).pathUp = s.pathUp ∧ (s.chooseUnit).monNow = s.monNow ∧ (s.chooseUnit).now = s.now := by
  unfold chooseUnit; simp

/-- A notice that enters the lane takes nothing else with it. -/
theorem beginNotice_eq (l : Link) :
    (l.notices = [] ∧ l.beginNotice = l) ∨ ∃ n rest, l.notices = n :: rest ∧
      l.beginNotice = { l with notices := rest, lostSinceSent := 0, lane := some (.notice n l.lostSinceSent) } := by
  rcases h : l.notices with _ | ⟨n, rest⟩
  · exact .inl ⟨rfl, by simp [Link.beginNotice, h]⟩
  · exact .inr ⟨n, rest, rfl, by simp [Link.beginNotice, h]⟩

/-- A cell that enters the lane moves no reply, no frame unit, no total and no counter. -/
@[simp] theorem beginCell_link (s : State) (c : CellClass) :
    (s.beginCell c).path.link.outstanding = s.path.link.outstanding ∧
    (s.beginCell c).path.link.replies = s.path.link.replies ∧
    (s.beginCell c).path.link.partsSent = s.path.link.partsSent ∧
    (s.beginCell c).path.link.stream = s.path.link.stream ∧ (s.beginCell c).path.link.received = s.path.link.received ∧
    (s.beginCell c).path.link.released = s.path.link.released ∧
    (s.beginCell c).path.link.headerErrors = s.path.link.headerErrors ∧
    (s.beginCell c).path.link.payloadErrors = s.path.link.payloadErrors ∧
    (s.beginCell c).path.link.requestsLost = s.path.link.requestsLost ∧
    (s.beginCell c).path.link.noticesLost = s.path.link.noticesLost ∧
    (s.beginCell c).path.link.protectTag = s.path.link.protectTag := by
  rcases c with _ | _ | _ | _
  · exact ⟨rfl, rfl, rfl, rfl, rfl, rfl, rfl, rfl, rfl, rfl, rfl⟩
  · exact ⟨rfl, rfl, rfl, rfl, rfl, rfl, rfl, rfl, rfl, rfl, rfl⟩
  · exact ⟨rfl, rfl, rfl, rfl, rfl, rfl, rfl, rfl, rfl, rfl, rfl⟩
  · rcases beginNotice_eq s.path.link with ⟨_, h⟩ | ⟨n, rest, _, h⟩ <;> simp [beginCell, Link.beginCell, h]

/-- A choice moves no reply, no frame unit, no total and no counter: what it takes from the link interface is a notice, the
count of lost ones, or the credit pending. -/
@[simp] theorem chooseUnit_link (s : State) :
    (s.chooseUnit).path.link.outstanding = s.path.link.outstanding ∧
    (s.chooseUnit).path.link.replies = s.path.link.replies ∧
    (s.chooseUnit).path.link.partsSent = s.path.link.partsSent ∧ (s.chooseUnit).path.link.stream = s.path.link.stream ∧
    (s.chooseUnit).path.link.received = s.path.link.received ∧
    (s.chooseUnit).path.link.released = s.path.link.released ∧
    (s.chooseUnit).path.link.headerErrors = s.path.link.headerErrors ∧
    (s.chooseUnit).path.link.payloadErrors = s.path.link.payloadErrors ∧
    (s.chooseUnit).path.link.requestsLost = s.path.link.requestsLost ∧
    (s.chooseUnit).path.link.noticesLost = s.path.link.noticesLost ∧
    (s.chooseUnit).path.link.protectTag = s.path.link.protectTag := by
  rcases s.chooseUnit_cases with ⟨_, h⟩ | ⟨_, ⟨_, _, h⟩ | ⟨c, _, _, h⟩ | ⟨c, _, _, _, h⟩ | ⟨_, _, h⟩⟩ <;>
    simp [h, Link.beginFrame]

/-- A cell of a class that is ready enters the lane. -/
theorem beginCell_lane (s : State) (c : CellClass) (h : s.classReady c = true) :
    (s.beginCell c).path.link.lane.isSome = true := by
  rcases c with _ | _ | _ | _
  · rcases hr : s.path.link.replies with _ | ⟨r, rest⟩
    · simp [classReady, Link.classReady, hr] at h
    · simp [beginCell, Link.beginCell, Link.beginReply, hr]
  · rcases hb : s.path.card.readBuffer with _ | b | ⟨tag, blocks, n⟩ <;> simp [classReady, Link.classReady, ReadBuffer.cellReady, hb] at h
    simp [beginCell, Link.beginCell, ReadBuffer.nextCell, hb, List.getElem?_eq_getElem (show n / 8 < blocks.length by omega)]
  · simp [beginCell, Link.beginCell, Link.beginCredit]
  · rcases beginNotice_eq s.path.link with ⟨hn, _⟩ | ⟨n, rest, _, hn⟩
    · simp [classReady, Link.classReady, hn] at h
    · simp [beginCell, Link.beginCell, hn]

/-- After a choice the lane is free only where no unit is ready (R165). -/
theorem chooseUnit_settled (s : State) : (s.chooseUnit).LaneSettled := by
  rcases s.chooseUnit_cases with ⟨h, h'⟩ | ⟨_, ⟨hs, hc, h'⟩ | ⟨c, _, hc, h'⟩ | ⟨c, _, hc, _, h'⟩ | ⟨hs, _, h'⟩⟩ <;>
    rw [h'] <;> intro hn
  · rw [hn] at h; cases h
  · refine ⟨hs, fun c => ?_⟩
    simpa [classReady] using List.find?_eq_none.mp hc c (by cases c <;> cases s.path.link.pointer <;> decide)
  · have := beginCell_lane s c ((cellDue_eq_some s c).mp hc).1
    rw [hn] at this; cases this
  · have := beginCell_lane s c ((cellDue_eq_some s c).mp hc).1
    simp at hn; rw [hn] at this; cases this
  · rcases hs' : s.path.link.stream with _ | ⟨u, rest⟩
    · exact absurd hs' hs
    · simp [Link.beginFrame, hs'] at hn

/-- A notice that enters the lane has not left the part (R163). -/
@[simp] theorem chooseUnit_noticesHeld (s : State) : (s.chooseUnit).noticesHeld = s.noticesHeld := by
  have hcell : ∀ c, s.classReady c = true → s.path.link.lane = none → (s.beginCell c).noticesHeld = s.noticesHeld := by
    intro c hc hl
    rcases c with _ | _ | _ | _
    · rcases hr : s.path.link.replies with _ | ⟨r, rest⟩ <;>
        simp [noticesHeld, beginCell, Link.beginCell, Link.beginReply, hr, hl]
    · rcases hb : s.path.card.readBuffer.nextCell with _ | u
      · simp [noticesHeld, beginCell, Link.beginCell, hb, hl]
      · rcases hb' : s.path.card.readBuffer with _ | b | ⟨tag, blocks, n⟩ <;> simp [ReadBuffer.nextCell, hb'] at hb
        obtain ⟨x, hx, rfl⟩ := hb
        simp [noticesHeld, beginCell, Link.beginCell, ReadBuffer.nextCell, hb', hx, hl]
    · simp [noticesHeld, beginCell, Link.beginCell, Link.beginCredit, hl]
    · rcases beginNotice_eq s.path.link with ⟨hn, _⟩ | ⟨n, rest, hn, h⟩
      · simp [classReady, Link.classReady, hn] at hc
      · simp [noticesHeld, beginCell, Link.beginCell, h, hl, hn]
  rcases s.chooseUnit_cases with ⟨_, h⟩ | ⟨hl, ⟨_, _, h⟩ | ⟨c, _, hc, h⟩ | ⟨c, _, hc, _, h⟩ | ⟨_, _, h⟩⟩ <;> rw [h]
  · exact hcell c ((cellDue_eq_some s c).mp hc).1 hl
  · rw [← hcell c ((cellDue_eq_some s c).mp hc).1 hl]; rfl
  · rcases hs : s.path.link.stream with _ | ⟨u, rest⟩ <;> simp [noticesHeld, Link.beginFrame, hs, hl]

/-- Credit that is due stays due at a choice (R164). -/
theorem chooseUnit_creditDue (s : State) (h : s.CreditDue) : (s.chooseUnit).CreditDue := by
  have hcell : ∀ c, s.path.link.creditPending = true → (s.beginCell c).CreditDue := by
    intro c hc
    rcases c with _ | _ | _ | _
    · exact .inl hc
    · exact .inl hc
    · exact .inr rfl
    · rcases beginNotice_eq s.path.link with ⟨_, h⟩ | ⟨n, rest, _, h⟩ <;>
        exact .inl (by simpa [beginCell, Link.beginCell, h] using hc)
  rcases s.chooseUnit_cases with ⟨_, h'⟩ | ⟨hl, ⟨_, _, h'⟩ | ⟨c, _, _, h'⟩ | ⟨c, _, _, _, h'⟩ | ⟨_, _, h'⟩⟩ <;> rw [h']
  · exact h
  · exact h
  all_goals
    have hp : s.path.link.creditPending = true := by
      rcases h with h | h
      · exact h
      · rw [hl] at h; cases h
  · exact hcell c hp
  · exact hcell c hp
  · exact .inl hp

@[simp] theorem notify_frame (s : State) (n : Notice) :
    (s.notify n).pending = s.pending ∧ (s.notify n).pins = s.pins ∧ (s.notify n).mon = s.mon ∧
    (s.notify n).path.intake = s.path.intake ∧ (s.notify n).path.engine = s.path.engine ∧
    (s.notify n).path.window = s.path.window ∧ (s.notify n).path.slots = s.path.slots ∧
    (s.notify n).path.card = s.path.card ∧ (s.notify n).pathUp = s.pathUp ∧ (s.notify n).monNow = s.monNow ∧
    (s.notify n).now = s.now := by
  unfold notify; split <;> simp

@[simp] theorem reply_frame (s : State) (tag : Byte) (code : ReplyCode) (data : ReplyData) :
    (s.reply tag code data).pending = s.pending ∧ (s.reply tag code data).pins = s.pins ∧
    (s.reply tag code data).mon = s.mon ∧ (s.reply tag code data).path.intake = s.path.intake ∧
    (s.reply tag code data).path.engine = s.path.engine ∧ (s.reply tag code data).path.window = s.path.window ∧
    (s.reply tag code data).path.slots = s.path.slots ∧ (s.reply tag code data).path.card = s.path.card ∧
    (s.reply tag code data).pathUp = s.pathUp ∧ (s.reply tag code data).monNow = s.monNow ∧
    (s.reply tag code data).now = s.now := by
  unfold reply; split <;> simp

@[simp] theorem answer_frame (s : State) (tag : Byte) (code : ReplyCode) :
    (s.answer tag code).pending = s.pending ∧ (s.answer tag code).pins = s.pins ∧ (s.answer tag code).mon = s.mon ∧
    (s.answer tag code).path.intake = s.path.intake ∧ (s.answer tag code).path.engine = s.path.engine ∧
    (s.answer tag code).path.window = s.path.window ∧ (s.answer tag code).path.slots = s.path.slots ∧
    (s.answer tag code).path.card = s.path.card ∧ (s.answer tag code).pathUp = s.pathUp ∧
    (s.answer tag code).monNow = s.monNow ∧ (s.answer tag code).now = s.now := by
  unfold answer; simp

@[simp] theorem release_frame (s : State) (n : Nat) :
    (s.release n).pending = s.pending ∧ (s.release n).pins = s.pins ∧ (s.release n).mon = s.mon ∧
    (s.release n).path.intake = s.path.intake ∧ (s.release n).path.engine = s.path.engine ∧
    (s.release n).path.window = s.path.window ∧ (s.release n).path.slots = s.path.slots ∧
    (s.release n).path.card = s.path.card ∧ (s.release n).pathUp = s.pathUp ∧ (s.release n).monNow = s.monNow ∧
    (s.release n).now = s.now := by
  unfold release; split <;> simp

@[simp] theorem receive_frame (s : State) (n : Nat) :
    (s.receive n).pending = s.pending ∧ (s.receive n).pins = s.pins ∧ (s.receive n).mon = s.mon ∧
    (s.receive n).path.intake = s.path.intake ∧ (s.receive n).path.engine = s.path.engine ∧
    (s.receive n).path.window = s.path.window ∧ (s.receive n).path.slots = s.path.slots ∧
    (s.receive n).path.card = s.path.card ∧ (s.receive n).pathUp = s.pathUp ∧ (s.receive n).monNow = s.monNow ∧
    (s.receive n).now = s.now := by
  unfold receive; simp

@[simp] theorem retain_frame (s : State) (i : Fin 4) (clip : Nat) :
    (s.retain i clip).pending = s.pending ∧ (s.retain i clip).pins = s.pins ∧ (s.retain i clip).path = s.path ∧
    (s.retain i clip).mon.conv = s.mon.conv ∧ (s.retain i clip).mon.prot = s.mon.prot ∧
    (s.retain i clip).mon.chg = s.mon.chg ∧ (s.retain i clip).mon.energy.railUp = s.mon.energy.railUp ∧
    (s.retain i clip).mon.energy.resetEnd = s.mon.energy.resetEnd ∧
    (s.retain i clip).mon.energy.state = s.mon.energy.state ∧ (s.retain i clip).pathUp = s.pathUp ∧
    (s.retain i clip).monNow = s.monNow ∧ (s.retain i clip).now = s.now := by
  refine ⟨?_, ?_, ?_, ?_, ?_, ?_, ?_, ?_, ?_, ?_, ?_, ?_⟩ <;> unfold retain <;>
    rfl

@[simp] theorem retainClosing_frame (s : State) (i : Fin 4) :
    (s.retainClosing i).pending = s.pending ∧ (s.retainClosing i).pins = s.pins ∧ (s.retainClosing i).path = s.path ∧
    (s.retainClosing i).mon.conv = s.mon.conv ∧ (s.retainClosing i).mon.prot = s.mon.prot ∧
    (s.retainClosing i).mon.chg = s.mon.chg ∧ (s.retainClosing i).mon.energy.railUp = s.mon.energy.railUp ∧
    (s.retainClosing i).mon.energy.resetEnd = s.mon.energy.resetEnd ∧
    (s.retainClosing i).mon.energy.state = s.mon.energy.state ∧ (s.retainClosing i).pathUp = s.pathUp ∧
    (s.retainClosing i).monNow = s.monNow ∧ (s.retainClosing i).now = s.now := by
  refine ⟨?_, ?_, ?_, ?_, ?_, ?_, ?_, ?_, ?_, ?_, ?_, ?_⟩ <;> unfold retainClosing <;>
    rfl

@[simp] theorem retainWritten_frame (s : State) (i : Fin 4) (n : Nat) :
    (s.retainWritten i n).pending = s.pending ∧ (s.retainWritten i n).pins = s.pins ∧
    (s.retainWritten i n).path = s.path ∧ (s.retainWritten i n).mon.conv = s.mon.conv ∧
    (s.retainWritten i n).mon.prot = s.mon.prot ∧ (s.retainWritten i n).mon.chg = s.mon.chg ∧
    (s.retainWritten i n).mon.energy.railUp = s.mon.energy.railUp ∧
    (s.retainWritten i n).mon.energy.resetEnd = s.mon.energy.resetEnd ∧
    (s.retainWritten i n).mon.energy.state = s.mon.energy.state ∧ (s.retainWritten i n).pathUp = s.pathUp ∧
    (s.retainWritten i n).monNow = s.monNow ∧ (s.retainWritten i n).now = s.now := by
  refine ⟨?_, ?_, ?_, ?_, ?_, ?_, ?_, ?_, ?_, ?_, ?_, ?_⟩ <;> unfold retainWritten <;>
    rfl

@[simp] theorem unretain_frame (s : State) (i : Fin 4) :
    (s.unretain i).pending = s.pending ∧ (s.unretain i).pins = s.pins ∧ (s.unretain i).path = s.path ∧
    (s.unretain i).mon.conv = s.mon.conv ∧ (s.unretain i).mon.prot = s.mon.prot ∧
    (s.unretain i).mon.chg = s.mon.chg ∧ (s.unretain i).mon.energy.railUp = s.mon.energy.railUp ∧
    (s.unretain i).mon.energy.resetEnd = s.mon.energy.resetEnd ∧
    (s.unretain i).mon.energy.state = s.mon.energy.state ∧ (s.unretain i).pathUp = s.pathUp ∧
    (s.unretain i).monNow = s.monNow ∧ (s.unretain i).now = s.now := by
  refine ⟨?_, ?_, ?_, ?_, ?_, ?_, ?_, ?_, ?_, ?_, ?_, ?_⟩ <;> unfold unretain <;>
    rfl

@[simp] theorem onFlags_frame (s : State) (f : FrameFlags → FrameFlags) :
    (s.onFlags f).pending = s.pending ∧ (s.onFlags f).pins = s.pins ∧ (s.onFlags f).mon = s.mon ∧
    (s.onFlags f).path.intake = s.path.intake ∧ (s.onFlags f).path.window = s.path.window ∧
    (s.onFlags f).path.slots = s.path.slots ∧ (s.onFlags f).path.card = s.path.card ∧
    (s.onFlags f).path.link = s.path.link ∧ (s.onFlags f).pathUp = s.pathUp ∧ (s.onFlags f).monNow = s.monNow ∧
    (s.onFlags f).now = s.now := by
  unfold onFlags; simp

/-! ### The swap -/

@[simp] theorem swapGeometry_frame (s : State) :
    (s.swapGeometry).pending = s.pending ∧ (s.swapGeometry).pins = s.pins ∧ (s.swapGeometry).mon = s.mon ∧
    (s.swapGeometry).path.intake = s.path.intake ∧ (s.swapGeometry).path.engine = s.path.engine ∧
    (s.swapGeometry).path.slots = s.path.slots ∧ (s.swapGeometry).path.card = s.path.card ∧
    (s.swapGeometry).path.link = s.path.link ∧ (s.swapGeometry).pathUp = s.pathUp ∧
    (s.swapGeometry).monNow = s.monNow ∧ (s.swapGeometry).now = s.now := by
  unfold swapGeometry; split <;> simp

@[simp] theorem swapMotion_frame (s : State) :
    (s.swapMotion).pending = s.pending ∧ (s.swapMotion).pins = s.pins ∧ (s.swapMotion).mon = s.mon ∧
    (s.swapMotion).path.window = s.path.window ∧ (s.swapMotion).path.slots = s.path.slots ∧
    (s.swapMotion).path.card = s.path.card ∧ (s.swapMotion).path.link = s.path.link ∧
    (s.swapMotion).pathUp = s.pathUp ∧ (s.swapMotion).monNow = s.monNow := by
  unfold swapMotion; split <;> simp

@[simp] theorem swap_frame (s : State) :
    (s.swap).pending = s.pending ∧ (s.swap).pins = s.pins ∧ (s.swap).mon = s.mon ∧
    (s.swap).path.slots = s.path.slots ∧ (s.swap).path.card = s.path.card ∧ (s.swap).path.link = s.path.link ∧
    (s.swap).pathUp = s.pathUp ∧ (s.swap).monNow = s.monNow := by
  unfold swap; split <;> simp

@[simp] theorem swapIfIdle_frame (s : State) :
    (s.swapIfIdle).pending = s.pending ∧ (s.swapIfIdle).pins = s.pins ∧ (s.swapIfIdle).mon = s.mon ∧
    (s.swapIfIdle).path.slots = s.path.slots ∧ (s.swapIfIdle).path.card = s.path.card ∧
    (s.swapIfIdle).path.link = s.path.link ∧ (s.swapIfIdle).pathUp = s.pathUp ∧ (s.swapIfIdle).monNow = s.monNow := by
  unfold swapIfIdle; split <;> simp

/-! ### Track assembler and clip slots -/

@[simp] theorem placeBuffer_frame (s : State) (i : Fin 4) (b : Fin 2) (r : List FrameRecord) :
    (s.placeBuffer i b r).pending = s.pending ∧ (s.placeBuffer i b r).pins = s.pins ∧
    (s.placeBuffer i b r).mon = s.mon ∧ (s.placeBuffer i b r).path.intake = s.path.intake ∧
    (s.placeBuffer i b r).path.engine = s.path.engine ∧ (s.placeBuffer i b r).path.window = s.path.window ∧
    (s.placeBuffer i b r).path.link = s.path.link ∧ (s.placeBuffer i b r).pathUp = s.pathUp ∧
    (s.placeBuffer i b r).monNow = s.monNow ∧ (s.placeBuffer i b r).now = s.now := by
  unfold placeBuffer; split <;> simp

@[simp] theorem appendRecord_frame (s : State) (i : Fin 4) (r : FrameRecord) :
    (s.appendRecord i r).pending = s.pending ∧ (s.appendRecord i r).pins = s.pins ∧
    (s.appendRecord i r).mon = s.mon ∧ (s.appendRecord i r).path.intake = s.path.intake ∧
    (s.appendRecord i r).path.engine = s.path.engine ∧ (s.appendRecord i r).path.window = s.path.window ∧
    (s.appendRecord i r).path.link = s.path.link ∧ (s.appendRecord i r).pathUp = s.pathUp ∧
    (s.appendRecord i r).monNow = s.monNow ∧ (s.appendRecord i r).now = s.now := by
  unfold appendRecord; (repeat' split) <;> simp

@[simp] theorem offerRecord_frame (s : State) (r : FrameRecord) (i : Fin 4) :
    (s.offerRecord r i).pending = s.pending ∧ (s.offerRecord r i).pins = s.pins ∧ (s.offerRecord r i).mon = s.mon ∧
    (s.offerRecord r i).path.intake = s.path.intake ∧ (s.offerRecord r i).path.engine = s.path.engine ∧
    (s.offerRecord r i).path.window = s.path.window ∧ (s.offerRecord r i).path.link = s.path.link ∧
    (s.offerRecord r i).pathUp = s.pathUp ∧ (s.offerRecord r i).monNow = s.monNow ∧
    (s.offerRecord r i).now = s.now := by
  unfold offerRecord; dsimp only; (repeat' split) <;> simp

@[simp] theorem takeRecord_frame (s : State) (r : FrameRecord) :
    (s.takeRecord r).pending = s.pending ∧ (s.takeRecord r).pins = s.pins ∧ (s.takeRecord r).mon = s.mon ∧
    (s.takeRecord r).path.intake = s.path.intake ∧ (s.takeRecord r).path.engine = s.path.engine ∧
    (s.takeRecord r).path.window = s.path.window ∧ (s.takeRecord r).path.link = s.path.link ∧
    (s.takeRecord r).pathUp = s.pathUp ∧ (s.takeRecord r).monNow = s.monNow ∧ (s.takeRecord r).now = s.now := by
  simp [takeRecord, slotIndices, List.foldl]

@[simp] theorem closeSlot_frame (s : State) (i : Fin 4) (stop : FrameNo) (cause : SealCause) :
    (s.closeSlot i stop cause).pending = s.pending ∧ (s.closeSlot i stop cause).pins = s.pins ∧
    (s.closeSlot i stop cause).path.intake = s.path.intake ∧ (s.closeSlot i stop cause).path.engine = s.path.engine ∧
    (s.closeSlot i stop cause).path.window = s.path.window ∧ (s.closeSlot i stop cause).path.card = s.path.card ∧
    (s.closeSlot i stop cause).path.link = s.path.link ∧ (s.closeSlot i stop cause).mon.conv = s.mon.conv ∧
    (s.closeSlot i stop cause).mon.prot = s.mon.prot ∧ (s.closeSlot i stop cause).mon.chg = s.mon.chg ∧
    (s.closeSlot i stop cause).mon.energy.railUp = s.mon.energy.railUp ∧
    (s.closeSlot i stop cause).mon.energy.resetEnd = s.mon.energy.resetEnd ∧
    (s.closeSlot i stop cause).mon.energy.state = s.mon.energy.state ∧ (s.closeSlot i stop cause).pathUp = s.pathUp ∧
    (s.closeSlot i stop cause).monNow = s.monNow ∧ (s.closeSlot i stop cause).now = s.now := by
  unfold closeSlot; simp

@[simp] theorem freeSlot_frame (s : State) (i : Fin 4) :
    (s.freeSlot i).pending = s.pending ∧ (s.freeSlot i).pins = s.pins ∧ (s.freeSlot i).mon = s.mon ∧
    (s.freeSlot i).path.intake = s.path.intake ∧ (s.freeSlot i).path.engine = s.path.engine ∧
    (s.freeSlot i).path.window = s.path.window ∧ (s.freeSlot i).path.card = s.path.card ∧
    (s.freeSlot i).path.link = s.path.link ∧ (s.freeSlot i).pathUp = s.pathUp ∧ (s.freeSlot i).monNow = s.monNow ∧
    (s.freeSlot i).now = s.now := by
  unfold freeSlot; simp

@[simp] theorem cutAllOwed_frame (s : State) :
    (s.cutAllOwed).pending = s.pending ∧ (s.cutAllOwed).pins = s.pins ∧ (s.cutAllOwed).mon = s.mon ∧
    (s.cutAllOwed).path.intake = s.path.intake ∧ (s.cutAllOwed).path.engine = s.path.engine ∧
    (s.cutAllOwed).path.window = s.path.window ∧ (s.cutAllOwed).path.card = s.path.card ∧
    (s.cutAllOwed).path.link = s.path.link ∧ (s.cutAllOwed).pathUp = s.pathUp ∧ (s.cutAllOwed).monNow = s.monNow ∧
    (s.cutAllOwed).now = s.now := by
  simp [cutAllOwed, slotIndices, List.foldl]

@[simp] theorem sealSlot_frame (s : State) (i : Fin 4) :
    (s.sealSlot i).pending = s.pending ∧ (s.sealSlot i).pins = s.pins ∧ (s.sealSlot i).path.intake = s.path.intake ∧
    (s.sealSlot i).path.engine = s.path.engine ∧ (s.sealSlot i).path.window = s.path.window ∧
    (s.sealSlot i).path.card = s.path.card ∧ (s.sealSlot i).mon.conv = s.mon.conv ∧
    (s.sealSlot i).mon.prot = s.mon.prot ∧ (s.sealSlot i).mon.chg = s.mon.chg ∧
    (s.sealSlot i).mon.energy.railUp = s.mon.energy.railUp ∧
    (s.sealSlot i).mon.energy.resetEnd = s.mon.energy.resetEnd ∧
    (s.sealSlot i).mon.energy.state = s.mon.energy.state ∧ (s.sealSlot i).pathUp = s.pathUp ∧
    (s.sealSlot i).monNow = s.monNow ∧ (s.sealSlot i).now = s.now := by
  unfold sealSlot; split <;> simp

@[simp] theorem emergencySeal_frame (s : State) :
    (s.emergencySeal).pending = s.pending ∧ (s.emergencySeal).pins = s.pins ∧
    (s.emergencySeal).path.intake = s.path.intake ∧ (s.emergencySeal).path.engine = s.path.engine ∧
    (s.emergencySeal).path.window = s.path.window ∧ (s.emergencySeal).path.card = s.path.card ∧
    (s.emergencySeal).mon.conv = s.mon.conv ∧ (s.emergencySeal).mon.prot = s.mon.prot ∧
    (s.emergencySeal).mon.chg = s.mon.chg ∧ (s.emergencySeal).mon.energy.railUp = s.mon.energy.railUp ∧
    (s.emergencySeal).mon.energy.resetEnd = s.mon.energy.resetEnd ∧
    (s.emergencySeal).mon.energy.state = s.mon.energy.state ∧ (s.emergencySeal).pathUp = s.pathUp ∧
    (s.emergencySeal).monNow = s.monNow ∧ (s.emergencySeal).now = s.now := by
  simp [emergencySeal, slotIndices, List.foldl]

@[simp] theorem loseSlot_frame (s : State) (cause : LossCause) (i : Fin 4) :
    (s.loseSlot cause i).pending = s.pending ∧ (s.loseSlot cause i).pins = s.pins ∧
    (s.loseSlot cause i).path.intake = s.path.intake ∧ (s.loseSlot cause i).path.engine = s.path.engine ∧
    (s.loseSlot cause i).path.window = s.path.window ∧ (s.loseSlot cause i).path.card = s.path.card ∧
    (s.loseSlot cause i).mon.conv = s.mon.conv ∧ (s.loseSlot cause i).mon.prot = s.mon.prot ∧
    (s.loseSlot cause i).mon.chg = s.mon.chg ∧ (s.loseSlot cause i).mon.energy.railUp = s.mon.energy.railUp ∧
    (s.loseSlot cause i).mon.energy.resetEnd = s.mon.energy.resetEnd ∧
    (s.loseSlot cause i).mon.energy.state = s.mon.energy.state ∧ (s.loseSlot cause i).pathUp = s.pathUp ∧
    (s.loseSlot cause i).monNow = s.monNow ∧ (s.loseSlot cause i).now = s.now := by
  unfold loseSlot; dsimp only; (repeat' split) <;> simp

@[simp] theorem loseSlots_frame (s : State) (cause : LossCause) :
    (s.loseSlots cause).pending = s.pending ∧ (s.loseSlots cause).pins = s.pins ∧
    (s.loseSlots cause).path.intake = s.path.intake ∧ (s.loseSlots cause).path.engine = s.path.engine ∧
    (s.loseSlots cause).path.window = s.path.window ∧ (s.loseSlots cause).path.card = s.path.card ∧
    (s.loseSlots cause).mon.conv = s.mon.conv ∧ (s.loseSlots cause).mon.prot = s.mon.prot ∧
    (s.loseSlots cause).mon.chg = s.mon.chg ∧ (s.loseSlots cause).mon.energy.railUp = s.mon.energy.railUp ∧
    (s.loseSlots cause).mon.energy.resetEnd = s.mon.energy.resetEnd ∧
    (s.loseSlots cause).mon.energy.state = s.mon.energy.state ∧ (s.loseSlots cause).pathUp = s.pathUp ∧
    (s.loseSlots cause).monNow = s.monNow ∧ (s.loseSlots cause).now = s.now := by
  simp [loseSlots, slotIndices, List.foldl]

@[simp] theorem sealed_frame (s : State) (i : Fin 4) (m : Summary) (failed : Bool) :
    (s.sealed i m failed).pending = s.pending ∧ (s.sealed i m failed).pins = s.pins ∧
    (s.sealed i m failed).path.intake = s.path.intake ∧ (s.sealed i m failed).path.engine = s.path.engine ∧
    (s.sealed i m failed).path.window = s.path.window ∧ (s.sealed i m failed).path.card = s.path.card ∧
    (s.sealed i m failed).mon.conv = s.mon.conv ∧ (s.sealed i m failed).mon.prot = s.mon.prot ∧
    (s.sealed i m failed).mon.chg = s.mon.chg ∧ (s.sealed i m failed).mon.energy.railUp = s.mon.energy.railUp ∧
    (s.sealed i m failed).mon.energy.resetEnd = s.mon.energy.resetEnd ∧
    (s.sealed i m failed).mon.energy.state = s.mon.energy.state ∧ (s.sealed i m failed).pathUp = s.pathUp ∧
    (s.sealed i m failed).monNow = s.monNow ∧ (s.sealed i m failed).now = s.now := by
  unfold sealed; simp

@[simp] theorem takeHandback_frame (s : State) (h : Handback) :
    (s.takeHandback h).pending = s.pending ∧ (s.takeHandback h).pins = s.pins ∧
    (s.takeHandback h).path.intake = s.path.intake ∧ (s.takeHandback h).path.engine = s.path.engine ∧
    (s.takeHandback h).path.window = s.path.window ∧ (s.takeHandback h).path.card = s.path.card ∧
    (s.takeHandback h).mon.conv = s.mon.conv ∧ (s.takeHandback h).mon.prot = s.mon.prot ∧
    (s.takeHandback h).mon.chg = s.mon.chg ∧ (s.takeHandback h).mon.energy.railUp = s.mon.energy.railUp ∧
    (s.takeHandback h).mon.energy.resetEnd = s.mon.energy.resetEnd ∧
    (s.takeHandback h).mon.energy.state = s.mon.energy.state ∧ (s.takeHandback h).pathUp = s.pathUp ∧
    (s.takeHandback h).monNow = s.monNow ∧ (s.takeHandback h).now = s.now := by
  unfold takeHandback; (repeat' split) <;> simp

/-! ### Monitor domain -/

@[simp] theorem settleEnergy_frame (s : State) (cause : EnergyCause) :
    (s.settleEnergy cause).pending = s.pending ∧ (s.settleEnergy cause).pins = s.pins ∧
    (s.settleEnergy cause).path.intake = s.path.intake ∧ (s.settleEnergy cause).path.engine = s.path.engine ∧
    (s.settleEnergy cause).path.window = s.path.window ∧ (s.settleEnergy cause).path.card = s.path.card ∧
    (s.settleEnergy cause).mon.conv = s.mon.conv ∧ (s.settleEnergy cause).mon.prot = s.mon.prot ∧
    (s.settleEnergy cause).mon.chg = s.mon.chg ∧ (s.settleEnergy cause).mon.energy.railUp = s.mon.energy.railUp ∧
    (s.settleEnergy cause).mon.energy.resetEnd = s.mon.energy.resetEnd ∧ (s.settleEnergy cause).now = s.now ∧
    (s.settleEnergy cause).pathUp = s.pathUp ∧ (s.settleEnergy cause).monNow = s.monNow := by
  unfold settleEnergy; dsimp only; (repeat' split) <;> simp <;> refine ⟨?_, ?_⟩ <;> rfl

@[simp] theorem calibrate_frame (s : State) (charge : Int) :
    (s.calibrate charge).pending = s.pending ∧ (s.calibrate charge).pins = s.pins ∧
    (s.calibrate charge).path.intake = s.path.intake ∧ (s.calibrate charge).path.engine = s.path.engine ∧
    (s.calibrate charge).path.window = s.path.window ∧ (s.calibrate charge).path.card = s.path.card ∧
    (s.calibrate charge).mon.prot = s.mon.prot ∧ (s.calibrate charge).mon.chg = s.mon.chg ∧
    (s.calibrate charge).mon.energy.railUp = s.mon.energy.railUp ∧
    (s.calibrate charge).mon.energy.resetEnd = s.mon.energy.resetEnd ∧ (s.calibrate charge).now = s.now ∧
    (s.calibrate charge).mon.conv.subMs = s.mon.conv.subMs ∧ (s.calibrate charge).pathUp = s.pathUp ∧
    (s.calibrate charge).monNow = s.monNow := by
  unfold calibrate; dsimp only; (repeat' split) <;> simp <;> refine ⟨?_, ?_⟩ <;> rfl

@[simp] theorem settleSwitches_frame (s : State) :
    (s.settleSwitches).pending = s.pending ∧ (s.settleSwitches).pins = s.pins ∧
    (s.settleSwitches).mon.conv = s.mon.conv ∧ (s.settleSwitches).mon.chg = s.mon.chg ∧
    (s.settleSwitches).mon.energy.state = s.mon.energy.state ∧ (s.settleSwitches).monNow = s.monNow := by
  unfold settleSwitches; simp

@[simp] theorem dischargeTrip_frame (s : State) (c : Condition) (m : Option Int) :
    (s.dischargeTrip c m).pending = s.pending ∧ (s.dischargeTrip c m).pins = s.pins ∧
    (s.dischargeTrip c m).mon.conv = s.mon.conv ∧ (s.dischargeTrip c m).mon.chg = s.mon.chg ∧
    (s.dischargeTrip c m).mon.energy.state = s.mon.energy.state ∧ (s.dischargeTrip c m).monNow = s.monNow := by
  unfold dischargeTrip; simp

@[simp] theorem chargeTrip_frame (s : State) :
    (s.chargeTrip).pending = s.pending ∧ (s.chargeTrip).pins = s.pins ∧ (s.chargeTrip).mon.conv = s.mon.conv ∧
    (s.chargeTrip).mon.chg = s.mon.chg ∧ (s.chargeTrip).mon.energy.state = s.mon.energy.state ∧
    (s.chargeTrip).monNow = s.monNow := by
  unfold chargeTrip; simp

@[simp] theorem noticeClear_frame (s : State) (c : Cleared) (cause : ClearCause) :
    (s.noticeClear c cause).pending = s.pending ∧ (s.noticeClear c cause).pins = s.pins ∧
    (s.noticeClear c cause).mon = s.mon ∧ (s.noticeClear c cause).path.intake = s.path.intake ∧
    (s.noticeClear c cause).path.engine = s.path.engine ∧ (s.noticeClear c cause).path.window = s.path.window ∧
    (s.noticeClear c cause).path.slots = s.path.slots ∧ (s.noticeClear c cause).path.card = s.path.card ∧
    (s.noticeClear c cause).pathUp = s.pathUp ∧ (s.noticeClear c cause).monNow = s.monNow ∧
    (s.noticeClear c cause).now = s.now := by
  unfold noticeClear; simp

@[simp] theorem protectInput_frame (s : State) :
    (s.protectInput).pending = s.pending ∧ (s.protectInput).pins = s.pins ∧ (s.protectInput).mon.conv = s.mon.conv ∧
    (s.protectInput).mon.chg = s.mon.chg ∧ (s.protectInput).mon.energy.state = s.mon.energy.state ∧
    (s.protectInput).monNow = s.monNow := by
  unfold protectInput; dsimp only; (repeat' split) <;> simp

@[simp] theorem settleDemand_frame (s : State) :
    (s.settleDemand).pending = s.pending ∧ (s.settleDemand).pins = s.pins ∧ (s.settleDemand).path = s.path ∧
    (s.settleDemand).mon.conv = s.mon.conv ∧ (s.settleDemand).mon.prot = s.mon.prot ∧
    (s.settleDemand).mon.energy = s.mon.energy ∧ (s.settleDemand).pathUp = s.pathUp ∧
    (s.settleDemand).monNow = s.monNow ∧ (s.settleDemand).now = s.now := by
  unfold settleDemand; simp

@[simp] theorem moveCharger_frame (s : State) (new : ChargerState) (cause : ChargerCause) (causes : HoldCauses) :
    (s.moveCharger new cause causes).pending = s.pending ∧ (s.moveCharger new cause causes).pins = s.pins ∧
    (s.moveCharger new cause causes).mon.conv.subMs = s.mon.conv.subMs ∧
    (s.moveCharger new cause causes).monNow = s.monNow := by
  unfold moveCharger; dsimp only; (repeat' split) <;> simp

@[simp] theorem beginHold_frame (s : State) (c : HoldCause) :
    (s.beginHold c).pending = s.pending ∧ (s.beginHold c).pins = s.pins ∧
    (s.beginHold c).mon.conv.subMs = s.mon.conv.subMs ∧ (s.beginHold c).monNow = s.monNow := by
  unfold beginHold; (repeat' split) <;> simp

@[simp] theorem endHold_frame (s : State) (c : HoldCause) :
    (s.endHold c).pending = s.pending ∧ (s.endHold c).pins = s.pins ∧
    (s.endHold c).mon.conv.subMs = s.mon.conv.subMs ∧ (s.endHold c).monNow = s.monNow := by
  unfold endHold; dsimp only; (repeat' split) <;> simp

@[simp] theorem settleIccEff_frame (s : State) :
    (s.settleIccEff).pending = s.pending ∧ (s.settleIccEff).pins = s.pins ∧ (s.settleIccEff).path = s.path ∧
    (s.settleIccEff).mon.conv = s.mon.conv ∧ (s.settleIccEff).mon.prot = s.mon.prot ∧
    (s.settleIccEff).mon.energy = s.mon.energy ∧ (s.settleIccEff).pathUp = s.pathUp ∧
    (s.settleIccEff).monNow = s.monNow ∧ (s.settleIccEff).now = s.now := by
  unfold settleIccEff; simp

@[simp] theorem chargerBattTemp_frame (s : State) (t : Int) :
    (s.chargerBattTemp t).pending = s.pending ∧ (s.chargerBattTemp t).pins = s.pins ∧
    (s.chargerBattTemp t).mon.conv.subMs = s.mon.conv.subMs ∧ (s.chargerBattTemp t).monNow = s.monNow := by
  unfold chargerBattTemp; dsimp only; (repeat' split) <;> simp

@[simp] theorem setDieHot_frame (s : State) (b : Bool) :
    (s.setDieHot b).pending = s.pending ∧ (s.setDieHot b).pins = s.pins ∧
    (s.setDieHot b).mon.conv.subMs = s.mon.conv.subMs ∧ (s.setDieHot b).monNow = s.monNow := by
  unfold setDieHot; dsimp only; (repeat' split) <;> simp

@[simp] theorem chargerDieTemp_frame (s : State) (t : Int) :
    (s.chargerDieTemp t).pending = s.pending ∧ (s.chargerDieTemp t).pins = s.pins ∧
    (s.chargerDieTemp t).mon.conv.subMs = s.mon.conv.subMs ∧ (s.chargerDieTemp t).monNow = s.monNow := by
  unfold chargerDieTemp; simp

@[simp] theorem chargerCell_frame (s : State) :
    (s.chargerCell).pending = s.pending ∧ (s.chargerCell).pins = s.pins ∧
    (s.chargerCell).mon.conv.subMs = s.mon.conv.subMs ∧ (s.chargerCell).monNow = s.monNow := by
  unfold chargerCell; (repeat' split) <;> simp

@[simp] theorem chargerCurrent_frame (s : State) (i : Int) :
    (s.chargerCurrent i).pending = s.pending ∧ (s.chargerCurrent i).pins = s.pins ∧
    (s.chargerCurrent i).mon.conv.subMs = s.mon.conv.subMs ∧ (s.chargerCurrent i).monNow = s.monNow := by
  unfold chargerCurrent; dsimp only; (repeat' split) <;> simp

@[simp] theorem inputAbsent_frame (s : State) :
    (s.inputAbsent).pending = s.pending ∧ (s.inputAbsent).pins = s.pins ∧
    (s.inputAbsent).mon.conv.subMs = s.mon.conv.subMs ∧ (s.inputAbsent).monNow = s.monNow := by
  unfold inputAbsent; simp

@[simp] theorem inputPresent_frame (s : State) :
    (s.inputPresent).pending = s.pending ∧ (s.inputPresent).pins = s.pins ∧
    (s.inputPresent).mon.conv.subMs = s.mon.conv.subMs ∧ (s.inputPresent).monNow = s.monNow := by
  unfold inputPresent; dsimp only; (repeat' split) <;> simp

@[simp] theorem judgeInput_frame (s : State) (mv : Int) :
    (s.judgeInput mv).pending = s.pending ∧ (s.judgeInput mv).pins = s.pins ∧
    (s.judgeInput mv).mon.conv.subMs = s.mon.conv.subMs ∧ (s.judgeInput mv).monNow = s.monNow := by
  unfold judgeInput; (repeat' split) <;> simp

@[simp] theorem chargerInput_frame (s : State) (mv : Int) :
    (s.chargerInput mv).pending = s.pending ∧ (s.chargerInput mv).pins = s.pins ∧
    (s.chargerInput mv).mon.conv.subMs = s.mon.conv.subMs ∧ (s.chargerInput mv).monNow = s.monNow := by
  unfold chargerInput; dsimp only; (repeat' split) <;> simp

@[simp] theorem evalCov_frame (s : State) :
    (s.evalCov).pending = s.pending ∧ (s.evalCov).pins = s.pins ∧ (s.evalCov).mon.conv.subMs = s.mon.conv.subMs ∧
    (s.evalCov).monNow = s.monNow := by
  unfold evalCov; (repeat' split) <;> simp

@[simp] theorem endWarning_frame (s : State) :
    (s.endWarning).pending = s.pending ∧ (s.endWarning).pins = s.pins ∧ (s.endWarning).path.intake = s.path.intake ∧
    (s.endWarning).path.engine = s.path.engine ∧ (s.endWarning).path.window = s.path.window ∧
    (s.endWarning).path.card = s.path.card ∧ (s.endWarning).mon.conv = s.mon.conv ∧
    (s.endWarning).mon.chg = s.mon.chg ∧ (s.endWarning).mon.energy.railUp = s.mon.energy.railUp ∧
    (s.endWarning).mon.energy.resetEnd = s.mon.energy.resetEnd ∧ (s.endWarning).now = s.now ∧
    (s.endWarning).pathUp = s.pathUp ∧ (s.endWarning).monNow = s.monNow := by
  unfold endWarning; split <;> simp

@[simp] theorem evalDuv_frame (s : State) :
    (s.evalDuv).pending = s.pending ∧ (s.evalDuv).pins = s.pins ∧ (s.evalDuv).path.intake = s.path.intake ∧
    (s.evalDuv).path.engine = s.path.engine ∧ (s.evalDuv).path.window = s.path.window ∧
    (s.evalDuv).path.card = s.path.card ∧ (s.evalDuv).mon.conv = s.mon.conv ∧ (s.evalDuv).mon.chg = s.mon.chg ∧
    (s.evalDuv).mon.energy.railUp = s.mon.energy.railUp ∧ (s.evalDuv).mon.energy.resetEnd = s.mon.energy.resetEnd ∧
    (s.evalDuv).now = s.now ∧ (s.evalDuv).pathUp = s.pathUp ∧ (s.evalDuv).monNow = s.monNow := by
  unfold evalDuv; dsimp only; (repeat' split) <;> simp

@[simp] theorem evalCells_frame (s : State) :
    (s.evalCells).pending = s.pending ∧ (s.evalCells).pins = s.pins ∧
    (s.evalCells).mon.conv.subMs = s.mon.conv.subMs ∧ (s.evalCells).monNow = s.monNow := by
  unfold evalCells; simp

@[simp] theorem answerProtect_frame (s : State) :
    (s.answerProtect).pending = s.pending ∧ (s.answerProtect).pins = s.pins ∧ (s.answerProtect).mon = s.mon ∧
    (s.answerProtect).path.intake = s.path.intake ∧ (s.answerProtect).path.engine = s.path.engine ∧
    (s.answerProtect).path.window = s.path.window ∧ (s.answerProtect).path.slots = s.path.slots ∧
    (s.answerProtect).path.card = s.path.card ∧ (s.answerProtect).pathUp = s.pathUp ∧
    (s.answerProtect).monNow = s.monNow ∧ (s.answerProtect).now = s.now := by
  unfold answerProtect; split <;> simp

@[simp] theorem enter_frame (s : State) (c : Channel) (v : Int) :
    (s.enter c v).pending = s.pending ∧ (s.enter c v).pins = s.pins ∧ (s.enter c v).path = s.path ∧
    (s.enter c v).mon.prot = s.mon.prot ∧ (s.enter c v).mon.chg = s.mon.chg ∧
    (s.enter c v).mon.energy = s.mon.energy ∧ (s.enter c v).pathUp = s.pathUp ∧ (s.enter c v).monNow = s.monNow ∧
    (s.enter c v).now = s.now ∧ (s.enter c v).mon.conv.subMs = s.mon.conv.subMs := by
  refine ⟨?_, ?_, ?_, ?_, ?_, ?_, ?_, ?_, ?_, ?_⟩ <;> unfold enter <;>
    rfl

@[simp] theorem countCharge_frame (s : State) (i : Int) :
    (s.countCharge i).pending = s.pending ∧ (s.countCharge i).pins = s.pins ∧
    (s.countCharge i).path.intake = s.path.intake ∧ (s.countCharge i).path.engine = s.path.engine ∧
    (s.countCharge i).path.window = s.path.window ∧ (s.countCharge i).path.card = s.path.card ∧
    (s.countCharge i).mon.prot = s.mon.prot ∧ (s.countCharge i).mon.chg = s.mon.chg ∧
    (s.countCharge i).mon.energy.railUp = s.mon.energy.railUp ∧
    (s.countCharge i).mon.energy.resetEnd = s.mon.energy.resetEnd ∧ (s.countCharge i).now = s.now ∧
    (s.countCharge i).pathUp = s.pathUp ∧ (s.countCharge i).monNow = s.monNow ∧
    (s.countCharge i).mon.conv.subMs = s.mon.conv.subMs := by
  unfold countCharge; dsimp only; split <;> simp <;> refine ⟨?_, ?_, ?_⟩ <;> rfl

@[simp] theorem takeCurrent_frame (s : State) (i : Int) :
    (s.takeCurrent i).pending = s.pending ∧ (s.takeCurrent i).pins = s.pins ∧
    (s.takeCurrent i).mon.conv.subMs = s.mon.conv.subMs ∧ (s.takeCurrent i).monNow = s.monNow := by
  unfold takeCurrent; simp

@[simp] theorem handOn_frame (s : State) (c : Channel) (v : Int) :
    (s.handOn c v).pending = s.pending ∧ (s.handOn c v).pins = s.pins ∧
    (s.handOn c v).mon.conv.subMs = s.mon.conv.subMs ∧ (s.handOn c v).monNow = s.monNow := by
  unfold handOn; split <;> simp

@[simp] theorem endVisit_frame (s : State) :
    (s.endVisit).pending = s.pending ∧ (s.endVisit).pins = s.pins ∧ (s.endVisit).mon.conv.subMs = s.mon.conv.subMs ∧
    (s.endVisit).monNow = s.monNow := by
  unfold endVisit; dsimp only; (repeat' split) <;> simp <;> refine ⟨?_, ?_⟩ <;> rfl

/-! ### Frame window -/

@[simp] theorem pushStream_frame (s : State) (u : StreamUnit) :
    (s.pushStream u).pending = s.pending ∧ (s.pushStream u).pins = s.pins ∧ (s.pushStream u).mon = s.mon ∧
    (s.pushStream u).path.intake = s.path.intake ∧ (s.pushStream u).path.engine = s.path.engine ∧
    (s.pushStream u).path.window = s.path.window ∧ (s.pushStream u).path.slots = s.path.slots ∧
    (s.pushStream u).path.card = s.path.card ∧ (s.pushStream u).pathUp = s.pathUp ∧
    (s.pushStream u).monNow = s.monNow ∧ (s.pushStream u).now = s.now := by
  unfold pushStream; simp

@[simp] theorem closeFrame_frame (s : State) (f : OpenFrame) (forced : Bool) :
    (s.closeFrame f forced).pending = s.pending ∧ (s.closeFrame f forced).pins = s.pins ∧
    (s.closeFrame f forced).mon = s.mon ∧ (s.closeFrame f forced).path.intake = s.path.intake ∧
    (s.closeFrame f forced).pathUp = s.pathUp ∧ (s.closeFrame f forced).monNow = s.monNow ∧
    (s.closeFrame f forced).now = s.now := by
  unfold closeFrame; simp

@[simp] theorem closeShort_frame (s : State) :
    (s.closeShort).pending = s.pending ∧ (s.closeShort).pins = s.pins ∧ (s.closeShort).mon = s.mon ∧
    (s.closeShort).path.intake = s.path.intake ∧ (s.closeShort).pathUp = s.pathUp ∧
    (s.closeShort).monNow = s.monNow ∧ (s.closeShort).now = s.now := by
  unfold closeShort; split <;> simp

/-- A swap leaves the pixel path state, the frame counter and the unset frames of the window as they were. -/
@[simp] theorem swap_window (s : State) :
    (s.swap).path.window.path = s.path.window.path ∧
    (s.swap).path.window.frameCounter = s.path.window.frameCounter ∧
    (s.swap).path.window.unsetFrames = s.path.window.unsetFrames := by
  unfold swap swapMotion swapGeometry; repeat' split
  all_goals simp [onWindow]

/-- Closing the open frame short leaves the pixel path state and the frame counter as they were. -/
@[simp] theorem closeShort_window (s : State) :
    (s.closeShort).path.window.path = s.path.window.path ∧
    (s.closeShort).path.window.frameCounter = s.path.window.frameCounter := by
  unfold closeShort closeFrame; split
  · simp
  · simp [onWindow]

@[simp] theorem beginFrame_frame (s : State) (g : Geometry) :
    (s.beginFrame g).pending = s.pending ∧ (s.beginFrame g).pins = s.pins ∧ (s.beginFrame g).mon = s.mon ∧
    (s.beginFrame g).path.slots = s.path.slots ∧ (s.beginFrame g).path.card = s.path.card ∧
    (s.beginFrame g).pathUp = s.pathUp ∧ (s.beginFrame g).monNow = s.monNow ∧ (s.beginFrame g).now = s.now := by
  unfold beginFrame; dsimp only; simp; rfl

@[simp] theorem numberedStart_frame (s : State) :
    (s.numberedStart).pending = s.pending ∧ (s.numberedStart).pins = s.pins ∧ (s.numberedStart).mon = s.mon ∧
    (s.numberedStart).pathUp = s.pathUp ∧ (s.numberedStart).monNow = s.monNow := by
  unfold numberedStart; dsimp only; (repeat' split) <;> simp

@[simp] theorem bandStart_frame (s : State) (f : OpenFrame) (b : Nat) :
    (s.bandStart f b).pending = s.pending ∧ (s.bandStart f b).pins = s.pins ∧ (s.bandStart f b).mon = s.mon ∧
    (s.bandStart f b).path.intake = s.path.intake ∧ (s.bandStart f b).path.slots = s.path.slots ∧
    (s.bandStart f b).path.card = s.path.card ∧ (s.bandStart f b).path.link = s.path.link ∧
    (s.bandStart f b).pathUp = s.pathUp ∧ (s.bandStart f b).monNow = s.monNow ∧ (s.bandStart f b).now = s.now := by
  unfold bandStart; simp

@[simp] theorem passLine_frame (s : State) (f : OpenFrame) (i : Nat) (p : List Pixel) :
    (s.passLine f i p).pending = s.pending ∧ (s.passLine f i p).pins = s.pins ∧ (s.passLine f i p).mon = s.mon ∧
    (s.passLine f i p).path.intake = s.path.intake ∧ (s.passLine f i p).path.engine = s.path.engine ∧
    (s.passLine f i p).path.slots = s.path.slots ∧ (s.passLine f i p).path.card = s.path.card ∧
    (s.passLine f i p).pathUp = s.pathUp ∧ (s.passLine f i p).monNow = s.monNow ∧ (s.passLine f i p).now = s.now := by
  unfold passLine; split <;> simp

@[simp] theorem frameLine_frame (s : State) (f : OpenFrame) (g : Geometry) (p : List Pixel) :
    (s.frameLine f g p).pending = s.pending ∧ (s.frameLine f g p).pins = s.pins ∧ (s.frameLine f g p).mon = s.mon ∧
    (s.frameLine f g p).path.intake = s.path.intake ∧ (s.frameLine f g p).path.slots = s.path.slots ∧
    (s.frameLine f g p).path.card = s.path.card ∧ (s.frameLine f g p).pathUp = s.pathUp ∧
    (s.frameLine f g p).monNow = s.monNow ∧ (s.frameLine f g p).now = s.now := by
  unfold frameLine; dsimp only; (repeat' split) <;> simp

/-! ### Motion intake -/

@[simp] theorem shockCheck_frame (s : State) (stamp : Time) (sum : Nat) :
    (s.shockCheck stamp sum).pending = s.pending ∧ (s.shockCheck stamp sum).pins = s.pins ∧
    (s.shockCheck stamp sum).mon = s.mon ∧ (s.shockCheck stamp sum).path.window = s.path.window ∧
    (s.shockCheck stamp sum).path.slots = s.path.slots ∧ (s.shockCheck stamp sum).path.link = s.path.link ∧
    (s.shockCheck stamp sum).pathUp = s.pathUp ∧ (s.shockCheck stamp sum).monNow = s.monNow ∧
    (s.shockCheck stamp sum).now = s.now := by
  refine ⟨?_, ?_, ?_, ?_, ?_, ?_, ?_, ?_, ?_⟩ <;> unfold shockCheck <;>
    (first | rfl | ((repeat' split) <;> rfl))

@[simp] theorem takeSample_frame (s : State) (stamp : Time) (r : RawSample) :
    (s.takeSample stamp r).pending = s.pending ∧ (s.takeSample stamp r).pins = s.pins ∧
    (s.takeSample stamp r).mon = s.mon ∧ (s.takeSample stamp r).path.window = s.path.window ∧
    (s.takeSample stamp r).path.slots = s.path.slots ∧ (s.takeSample stamp r).path.link = s.path.link ∧
    (s.takeSample stamp r).pathUp = s.pathUp ∧ (s.takeSample stamp r).monNow = s.monNow := by
  unfold takeSample; simp

/-! ### Data packets -/

@[simp] theorem headerError_frame (s : State) :
    (s.headerError).pending = s.pending ∧ (s.headerError).pins = s.pins ∧ (s.headerError).mon = s.mon ∧
    (s.headerError).path.intake = s.path.intake ∧ (s.headerError).path.engine = s.path.engine ∧
    (s.headerError).path.window = s.path.window ∧ (s.headerError).path.slots = s.path.slots ∧
    (s.headerError).path.card = s.path.card ∧ (s.headerError).pathUp = s.pathUp ∧ (s.headerError).monNow = s.monNow ∧
    (s.headerError).now = s.now := by
  unfold headerError; simp

@[simp] theorem countPayloadError_frame (s : State) :
    (s.countPayloadError).pending = s.pending ∧ (s.countPayloadError).pins = s.pins ∧
    (s.countPayloadError).mon = s.mon ∧ (s.countPayloadError).path.intake = s.path.intake ∧
    (s.countPayloadError).path.engine = s.path.engine ∧ (s.countPayloadError).path.window = s.path.window ∧
    (s.countPayloadError).path.slots = s.path.slots ∧ (s.countPayloadError).path.card = s.path.card ∧
    (s.countPayloadError).pathUp = s.pathUp ∧ (s.countPayloadError).monNow = s.monNow ∧
    (s.countPayloadError).now = s.now := by
  unfold countPayloadError; simp

@[simp] theorem checkSpaceLow_frame (s : State) (i : Fin 4) :
    (s.checkSpaceLow i).pending = s.pending ∧ (s.checkSpaceLow i).pins = s.pins ∧ (s.checkSpaceLow i).mon = s.mon ∧
    (s.checkSpaceLow i).path.intake = s.path.intake ∧ (s.checkSpaceLow i).path.engine = s.path.engine ∧
    (s.checkSpaceLow i).path.window = s.path.window ∧ (s.checkSpaceLow i).path.card = s.path.card ∧
    (s.checkSpaceLow i).pathUp = s.pathUp ∧ (s.checkSpaceLow i).monNow = s.monNow ∧
    (s.checkSpaceLow i).now = s.now := by
  unfold checkSpaceLow; dsimp only; (repeat' split) <;> simp

@[simp] theorem placePacket_frame (s : State) (i : Fin 4) (b : List Block) :
    (s.placePacket i b).pending = s.pending ∧ (s.placePacket i b).pins = s.pins ∧ (s.placePacket i b).mon = s.mon ∧
    (s.placePacket i b).path.intake = s.path.intake ∧ (s.placePacket i b).path.engine = s.path.engine ∧
    (s.placePacket i b).path.window = s.path.window ∧ (s.placePacket i b).pathUp = s.pathUp ∧
    (s.placePacket i b).monNow = s.monNow ∧ (s.placePacket i b).now = s.now := by
  unfold placePacket; simp

@[simp] theorem discardClip_frame (s : State) (i : Fin 4) (n : Nat) (c : DiscardCause) :
    (s.discardClip i n c).pending = s.pending ∧ (s.discardClip i n c).pins = s.pins ∧
    (s.discardClip i n c).mon = s.mon ∧ (s.discardClip i n c).path.intake = s.path.intake ∧
    (s.discardClip i n c).path.engine = s.path.engine ∧ (s.discardClip i n c).path.window = s.path.window ∧
    (s.discardClip i n c).path.card = s.path.card ∧ (s.discardClip i n c).pathUp = s.pathUp ∧
    (s.discardClip i n c).monNow = s.monNow ∧ (s.discardClip i n c).now = s.now := by
  unfold discardClip; simp

@[simp] theorem discardPlain_frame (s : State) (start n : Nat) (c : DiscardCause) :
    (s.discardPlain start n c).pending = s.pending ∧ (s.discardPlain start n c).pins = s.pins ∧
    (s.discardPlain start n c).mon = s.mon ∧ (s.discardPlain start n c).path.intake = s.path.intake ∧
    (s.discardPlain start n c).path.engine = s.path.engine ∧ (s.discardPlain start n c).path.window = s.path.window ∧
    (s.discardPlain start n c).path.slots = s.path.slots ∧ (s.discardPlain start n c).path.card = s.path.card ∧
    (s.discardPlain start n c).pathUp = s.pathUp ∧ (s.discardPlain start n c).monNow = s.monNow ∧
    (s.discardPlain start n c).now = s.now := by
  unfold discardPlain; simp

@[simp] theorem takeClipData_frame (s : State) (i : Fin 4) (n : Nat) (p : Option (List Block)) :
    (s.takeClipData i n p).pending = s.pending ∧ (s.takeClipData i n p).pins = s.pins ∧
    (s.takeClipData i n p).mon = s.mon ∧ (s.takeClipData i n p).path.intake = s.path.intake ∧
    (s.takeClipData i n p).path.engine = s.path.engine ∧ (s.takeClipData i n p).path.window = s.path.window ∧
    (s.takeClipData i n p).pathUp = s.pathUp ∧ (s.takeClipData i n p).monNow = s.monNow ∧
    (s.takeClipData i n p).now = s.now := by
  unfold takeClipData; (repeat' split) <;> simp

@[simp] theorem takePlain_frame (s : State) (start n : Nat) (p : Option (List Block)) :
    (s.takePlain start n p).pending = s.pending ∧ (s.takePlain start n p).pins = s.pins ∧
    (s.takePlain start n p).mon = s.mon ∧ (s.takePlain start n p).path.intake = s.path.intake ∧
    (s.takePlain start n p).path.engine = s.path.engine ∧ (s.takePlain start n p).path.window = s.path.window ∧
    (s.takePlain start n p).path.slots = s.path.slots ∧ (s.takePlain start n p).pathUp = s.pathUp ∧
    (s.takePlain start n p).monNow = s.monNow ∧ (s.takePlain start n p).now = s.now := by
  unfold takePlain; (repeat' split) <;> simp

@[simp] theorem takeData_frame (s : State) (n : Nat) (p : Option (List Block)) :
    (s.takeData n p).pending = s.pending ∧ (s.takeData n p).pins = s.pins ∧ (s.takeData n p).mon = s.mon ∧
    (s.takeData n p).path.intake = s.path.intake ∧ (s.takeData n p).path.engine = s.path.engine ∧
    (s.takeData n p).path.window = s.path.window ∧ (s.takeData n p).path.slots = s.path.slots ∧
    (s.takeData n p).path.card = s.path.card ∧ (s.takeData n p).pathUp = s.pathUp ∧
    (s.takeData n p).monNow = s.monNow ∧ (s.takeData n p).now = s.now := by
  unfold takeData; split <;> simp

/-! ### Card engine -/

@[simp] theorem releaseEntries_frame (s : State) (e : List Entry) :
    (s.releaseEntries e).pending = s.pending ∧ (s.releaseEntries e).pins = s.pins ∧
    (s.releaseEntries e).mon = s.mon ∧ (s.releaseEntries e).path.intake = s.path.intake ∧
    (s.releaseEntries e).path.engine = s.path.engine ∧ (s.releaseEntries e).path.window = s.path.window ∧
    (s.releaseEntries e).path.slots = s.path.slots ∧ (s.releaseEntries e).path.card = s.path.card ∧
    (s.releaseEntries e).pathUp = s.pathUp ∧ (s.releaseEntries e).monNow = s.monNow ∧
    (s.releaseEntries e).now = s.now := by
  unfold releaseEntries; simp

@[simp] theorem handBack_frame (s : State) (e : List Entry) (r : HandbackResult) :
    (s.handBack e r).pending = s.pending ∧ (s.handBack e r).pins = s.pins ∧ (s.handBack e r).mon = s.mon ∧
    (s.handBack e r).path.intake = s.path.intake ∧ (s.handBack e r).path.engine = s.path.engine ∧
    (s.handBack e r).path.window = s.path.window ∧ (s.handBack e r).path.slots = s.path.slots ∧
    (s.handBack e r).path.link = s.path.link ∧ (s.handBack e r).pathUp = s.pathUp ∧
    (s.handBack e r).monNow = s.monNow ∧ (s.handBack e r).now = s.now := by
  unfold handBack; simp

@[simp] theorem answerReads_frame (s : State) (r : List CardRead) (c : ReplyCode) :
    (s.answerReads r c).pending = s.pending ∧ (s.answerReads r c).pins = s.pins ∧ (s.answerReads r c).mon = s.mon ∧
    (s.answerReads r c).path.intake = s.path.intake ∧ (s.answerReads r c).path.engine = s.path.engine ∧
    (s.answerReads r c).path.window = s.path.window ∧ (s.answerReads r c).path.slots = s.path.slots ∧
    (s.answerReads r c).path.card = s.path.card ∧ (s.answerReads r c).pathUp = s.pathUp ∧
    (s.answerReads r c).monNow = s.monNow ∧ (s.answerReads r c).now = s.now := by
  induction r generalizing s with
  | nil => simp [answerReads]
  | cons a l ih =>
    have h := ih (s.answer a.tag c)
    simp only [answerReads, List.foldl_cons] at h ⊢
    simpa using h

@[simp] theorem emptyQueue_frame (s : State) :
    (s.emptyQueue).pending = s.pending ∧ (s.emptyQueue).pins = s.pins ∧ (s.emptyQueue).mon = s.mon ∧
    (s.emptyQueue).path.intake = s.path.intake ∧ (s.emptyQueue).path.engine = s.path.engine ∧
    (s.emptyQueue).path.window = s.path.window ∧ (s.emptyQueue).path.slots = s.path.slots ∧
    (s.emptyQueue).pathUp = s.pathUp ∧ (s.emptyQueue).monNow = s.monNow ∧ (s.emptyQueue).now = s.now := by
  unfold emptyQueue; simp

@[simp] theorem dropReads_frame (s : State) :
    (s.dropReads).pending = s.pending ∧ (s.dropReads).pins = s.pins ∧ (s.dropReads).mon = s.mon ∧
    (s.dropReads).path.intake = s.path.intake ∧ (s.dropReads).path.engine = s.path.engine ∧
    (s.dropReads).path.window = s.path.window ∧ (s.dropReads).path.slots = s.path.slots ∧
    (s.dropReads).pathUp = s.pathUp ∧ (s.dropReads).monNow = s.monNow ∧ (s.dropReads).now = s.now := by
  unfold dropReads; simp

@[simp] theorem teardown_frame (s : State) (new : CardState) (cause : CardCause) (loss : LossCause) :
    (s.teardown new cause loss).pending = s.pending ∧ (s.teardown new cause loss).pins = s.pins ∧
    (s.teardown new cause loss).path.intake = s.path.intake ∧
    (s.teardown new cause loss).path.engine = s.path.engine ∧
    (s.teardown new cause loss).path.window = s.path.window ∧ (s.teardown new cause loss).mon.conv = s.mon.conv ∧
    (s.teardown new cause loss).mon.prot = s.mon.prot ∧ (s.teardown new cause loss).mon.chg = s.mon.chg ∧
    (s.teardown new cause loss).mon.energy.railUp = s.mon.energy.railUp ∧
    (s.teardown new cause loss).mon.energy.resetEnd = s.mon.energy.resetEnd ∧
    (s.teardown new cause loss).mon.energy.state = s.mon.energy.state ∧
    (s.teardown new cause loss).pathUp = s.pathUp ∧ (s.teardown new cause loss).monNow = s.monNow ∧
    (s.teardown new cause loss).now = s.now := by
  unfold teardown; simp

@[simp] theorem removeCard_frame (s : State) :
    (s.removeCard).pending = s.pending ∧ (s.removeCard).pins = s.pins ∧ (s.removeCard).path.intake = s.path.intake ∧
    (s.removeCard).path.engine = s.path.engine ∧ (s.removeCard).path.window = s.path.window ∧
    (s.removeCard).mon.conv = s.mon.conv ∧ (s.removeCard).mon.prot = s.mon.prot ∧
    (s.removeCard).mon.chg = s.mon.chg ∧ (s.removeCard).mon.energy.railUp = s.mon.energy.railUp ∧
    (s.removeCard).mon.energy.resetEnd = s.mon.energy.resetEnd ∧
    (s.removeCard).mon.energy.state = s.mon.energy.state ∧ (s.removeCard).pathUp = s.pathUp ∧
    (s.removeCard).monNow = s.monNow ∧ (s.removeCard).now = s.now := by
  unfold removeCard; simp

@[simp] theorem startCard_frame (s : State) (cause : CardCause) :
    (s.startCard cause).pending = s.pending ∧ (s.startCard cause).pins = s.pins ∧ (s.startCard cause).mon = s.mon ∧
    (s.startCard cause).path.intake = s.path.intake ∧ (s.startCard cause).path.engine = s.path.engine ∧
    (s.startCard cause).path.window = s.path.window ∧ (s.startCard cause).path.slots = s.path.slots ∧
    (s.startCard cause).pathUp = s.pathUp ∧ (s.startCard cause).monNow = s.monNow ∧
    (s.startCard cause).now = s.now := by
  unfold startCard; simp

@[simp] theorem cardReady_frame (s : State) (n : Nat) :
    (s.cardReady n).pending = s.pending ∧ (s.cardReady n).pins = s.pins ∧ (s.cardReady n).mon = s.mon ∧
    (s.cardReady n).path.intake = s.path.intake ∧ (s.cardReady n).path.engine = s.path.engine ∧
    (s.cardReady n).path.window = s.path.window ∧ (s.cardReady n).path.slots = s.path.slots ∧
    (s.cardReady n).pathUp = s.pathUp ∧ (s.cardReady n).monNow = s.monNow ∧ (s.cardReady n).now = s.now := by
  unfold cardReady; simp

@[simp] theorem startResponse_frame (s : State) (r : StartResponse) :
    (s.startResponse r).pending = s.pending ∧ (s.startResponse r).pins = s.pins ∧ (s.startResponse r).mon = s.mon ∧
    (s.startResponse r).path.intake = s.path.intake ∧ (s.startResponse r).path.engine = s.path.engine ∧
    (s.startResponse r).path.window = s.path.window ∧ (s.startResponse r).path.slots = s.path.slots ∧
    (s.startResponse r).pathUp = s.pathUp ∧ (s.startResponse r).monNow = s.monNow ∧
    (s.startResponse r).now = s.now := by
  unfold startResponse; (repeat' split) <;> simp

@[simp] theorem judgeFailures_frame (s : State) :
    (s.judgeFailures).pending = s.pending ∧ (s.judgeFailures).pins = s.pins ∧
    (s.judgeFailures).path.intake = s.path.intake ∧ (s.judgeFailures).path.engine = s.path.engine ∧
    (s.judgeFailures).path.window = s.path.window ∧ (s.judgeFailures).mon.conv = s.mon.conv ∧
    (s.judgeFailures).mon.prot = s.mon.prot ∧ (s.judgeFailures).mon.chg = s.mon.chg ∧
    (s.judgeFailures).mon.energy.railUp = s.mon.energy.railUp ∧
    (s.judgeFailures).mon.energy.resetEnd = s.mon.energy.resetEnd ∧
    (s.judgeFailures).mon.energy.state = s.mon.energy.state ∧ (s.judgeFailures).pathUp = s.pathUp ∧
    (s.judgeFailures).monNow = s.monNow ∧ (s.judgeFailures).now = s.now := by
  unfold judgeFailures; split <;> simp

@[simp] theorem faultOwner_frame (s : State) (e : List Entry) (o : Option (Fin 4)) :
    (s.faultOwner e o).pending = s.pending ∧ (s.faultOwner e o).pins = s.pins ∧ (s.faultOwner e o).mon = s.mon ∧
    (s.faultOwner e o).path.intake = s.path.intake ∧ (s.faultOwner e o).path.engine = s.path.engine ∧
    (s.faultOwner e o).path.window = s.path.window ∧ (s.faultOwner e o).path.card = s.path.card ∧
    (s.faultOwner e o).path.link = s.path.link ∧ (s.faultOwner e o).pathUp = s.pathUp ∧
    (s.faultOwner e o).monNow = s.monNow ∧ (s.faultOwner e o).now = s.now := by
  unfold faultOwner; split <;> simp

@[simp] theorem faultOwners_frame (s : State) (e : List Entry) (o : List (Option (Fin 4))) :
    (o.foldl (faultOwner e) s).pending = s.pending ∧ (o.foldl (faultOwner e) s).pins = s.pins ∧
    (o.foldl (faultOwner e) s).mon = s.mon ∧ (o.foldl (faultOwner e) s).path.intake = s.path.intake ∧
    (o.foldl (faultOwner e) s).path.engine = s.path.engine ∧ (o.foldl (faultOwner e) s).path.window = s.path.window ∧
    (o.foldl (faultOwner e) s).path.card = s.path.card ∧ (o.foldl (faultOwner e) s).path.link = s.path.link ∧
    (o.foldl (faultOwner e) s).pathUp = s.pathUp ∧ (o.foldl (faultOwner e) s).monNow = s.monNow ∧
    (o.foldl (faultOwner e) s).now = s.now := by
  induction o generalizing s with
  | nil => simp
  | cons a l ih => simpa using ih (s.faultOwner e a)

@[simp] theorem writeFaultNotices_frame (s : State) (e : List Entry) (f : AttemptFailure) (n : Nat) (o : List (Option (Fin 4))) :
    (o.foldl (fun s o => s.notify (s.writeFaultNotice e f n o)) s).pending = s.pending ∧
    (o.foldl (fun s o => s.notify (s.writeFaultNotice e f n o)) s).pins = s.pins ∧
    (o.foldl (fun s o => s.notify (s.writeFaultNotice e f n o)) s).mon = s.mon ∧
    (o.foldl (fun s o => s.notify (s.writeFaultNotice e f n o)) s).path.intake = s.path.intake ∧
    (o.foldl (fun s o => s.notify (s.writeFaultNotice e f n o)) s).path.engine = s.path.engine ∧
    (o.foldl (fun s o => s.notify (s.writeFaultNotice e f n o)) s).path.window = s.path.window ∧
    (o.foldl (fun s o => s.notify (s.writeFaultNotice e f n o)) s).path.slots = s.path.slots ∧
    (o.foldl (fun s o => s.notify (s.writeFaultNotice e f n o)) s).path.card = s.path.card ∧
    (o.foldl (fun s o => s.notify (s.writeFaultNotice e f n o)) s).pathUp = s.pathUp ∧
    (o.foldl (fun s o => s.notify (s.writeFaultNotice e f n o)) s).monNow = s.monNow ∧
    (o.foldl (fun s o => s.notify (s.writeFaultNotice e f n o)) s).now = s.now := by
  induction o generalizing s with
  | nil => simp
  | cons a l ih => simpa using ih (s.notify (s.writeFaultNotice e f n a))

@[simp] theorem writeFailed_frame (s : State) (t : Transaction) (k : Nat) (o : AttemptFailure) :
    (s.writeFailed t k o).pending = s.pending ∧ (s.writeFailed t k o).pins = s.pins ∧
    (s.writeFailed t k o).path.intake = s.path.intake ∧ (s.writeFailed t k o).path.engine = s.path.engine ∧
    (s.writeFailed t k o).path.window = s.path.window ∧ (s.writeFailed t k o).mon.conv = s.mon.conv ∧
    (s.writeFailed t k o).mon.prot = s.mon.prot ∧ (s.writeFailed t k o).mon.chg = s.mon.chg ∧
    (s.writeFailed t k o).mon.energy.railUp = s.mon.energy.railUp ∧
    (s.writeFailed t k o).mon.energy.resetEnd = s.mon.energy.resetEnd ∧
    (s.writeFailed t k o).mon.energy.state = s.mon.energy.state ∧ (s.writeFailed t k o).pathUp = s.pathUp ∧
    (s.writeFailed t k o).monNow = s.monNow ∧ (s.writeFailed t k o).now = s.now := by
  unfold writeFailed; simp

@[simp] theorem readFailed_frame (s : State) :
    (s.readFailed).pending = s.pending ∧ (s.readFailed).pins = s.pins ∧ (s.readFailed).path.intake = s.path.intake ∧
    (s.readFailed).path.engine = s.path.engine ∧ (s.readFailed).path.window = s.path.window ∧
    (s.readFailed).mon.conv = s.mon.conv ∧ (s.readFailed).mon.prot = s.mon.prot ∧
    (s.readFailed).mon.chg = s.mon.chg ∧ (s.readFailed).mon.energy.railUp = s.mon.energy.railUp ∧
    (s.readFailed).mon.energy.resetEnd = s.mon.energy.resetEnd ∧
    (s.readFailed).mon.energy.state = s.mon.energy.state ∧ (s.readFailed).pathUp = s.pathUp ∧
    (s.readFailed).monNow = s.monNow ∧ (s.readFailed).now = s.now := by
  unfold readFailed; simp

@[simp] theorem endAttempt_frame (s : State) (t : Transaction) (o : AttemptFailure) :
    (s.endAttempt t o).pending = s.pending ∧ (s.endAttempt t o).pins = s.pins ∧
    (s.endAttempt t o).path.intake = s.path.intake ∧ (s.endAttempt t o).path.engine = s.path.engine ∧
    (s.endAttempt t o).path.window = s.path.window ∧ (s.endAttempt t o).mon.conv = s.mon.conv ∧
    (s.endAttempt t o).mon.prot = s.mon.prot ∧ (s.endAttempt t o).mon.chg = s.mon.chg ∧
    (s.endAttempt t o).mon.energy.railUp = s.mon.energy.railUp ∧
    (s.endAttempt t o).mon.energy.resetEnd = s.mon.energy.resetEnd ∧
    (s.endAttempt t o).mon.energy.state = s.mon.energy.state ∧ (s.endAttempt t o).pathUp = s.pathUp ∧
    (s.endAttempt t o).monNow = s.monNow ∧ (s.endAttempt t o).now = s.now := by
  unfold endAttempt; dsimp only; (repeat' split) <;> simp

@[simp] theorem completeEntry_frame (s : State) (e : Entry) :
    (s.completeEntry e).pending = s.pending ∧ (s.completeEntry e).pins = s.pins ∧
    (s.completeEntry e).path.intake = s.path.intake ∧ (s.completeEntry e).path.engine = s.path.engine ∧
    (s.completeEntry e).path.window = s.path.window ∧ (s.completeEntry e).path.card = s.path.card ∧
    (s.completeEntry e).path.link = s.path.link ∧ (s.completeEntry e).mon.conv = s.mon.conv ∧
    (s.completeEntry e).mon.prot = s.mon.prot ∧ (s.completeEntry e).mon.chg = s.mon.chg ∧
    (s.completeEntry e).mon.energy.railUp = s.mon.energy.railUp ∧
    (s.completeEntry e).mon.energy.resetEnd = s.mon.energy.resetEnd ∧
    (s.completeEntry e).mon.energy.state = s.mon.energy.state ∧ (s.completeEntry e).pathUp = s.pathUp ∧
    (s.completeEntry e).monNow = s.monNow ∧ (s.completeEntry e).now = s.now := by
  unfold completeEntry; split <;> simp

@[simp] theorem completeEntries_frame (s : State) (e : List Entry) :
    (e.foldl completeEntry s).pending = s.pending ∧ (e.foldl completeEntry s).pins = s.pins ∧
    (e.foldl completeEntry s).path.intake = s.path.intake ∧ (e.foldl completeEntry s).path.engine = s.path.engine ∧
    (e.foldl completeEntry s).path.window = s.path.window ∧ (e.foldl completeEntry s).path.card = s.path.card ∧
    (e.foldl completeEntry s).path.link = s.path.link ∧ (e.foldl completeEntry s).mon.conv = s.mon.conv ∧
    (e.foldl completeEntry s).mon.prot = s.mon.prot ∧ (e.foldl completeEntry s).mon.chg = s.mon.chg ∧
    (e.foldl completeEntry s).mon.energy.railUp = s.mon.energy.railUp ∧
    (e.foldl completeEntry s).mon.energy.resetEnd = s.mon.energy.resetEnd ∧
    (e.foldl completeEntry s).mon.energy.state = s.mon.energy.state ∧ (e.foldl completeEntry s).pathUp = s.pathUp ∧
    (e.foldl completeEntry s).monNow = s.monNow ∧ (e.foldl completeEntry s).now = s.now := by
  induction e generalizing s with
  | nil => simp
  | cons a l ih => simpa using ih (s.completeEntry a)

@[simp] theorem writeDone_frame (s : State) (k : Nat) :
    (s.writeDone k).pending = s.pending ∧ (s.writeDone k).pins = s.pins ∧
    (s.writeDone k).path.intake = s.path.intake ∧ (s.writeDone k).path.engine = s.path.engine ∧
    (s.writeDone k).path.window = s.path.window ∧ (s.writeDone k).mon.conv = s.mon.conv ∧
    (s.writeDone k).mon.prot = s.mon.prot ∧ (s.writeDone k).mon.chg = s.mon.chg ∧
    (s.writeDone k).mon.energy.railUp = s.mon.energy.railUp ∧
    (s.writeDone k).mon.energy.resetEnd = s.mon.energy.resetEnd ∧
    (s.writeDone k).mon.energy.state = s.mon.energy.state ∧ (s.writeDone k).pathUp = s.pathUp ∧
    (s.writeDone k).monNow = s.monNow ∧ (s.writeDone k).now = s.now := by
  unfold writeDone; simp

@[simp] theorem beginBusy_frame (s : State) (t : Transaction) :
    (s.beginBusy t).pending = s.pending ∧ (s.beginBusy t).pins = s.pins ∧ (s.beginBusy t).mon = s.mon ∧
    (s.beginBusy t).path.intake = s.path.intake ∧ (s.beginBusy t).path.engine = s.path.engine ∧
    (s.beginBusy t).path.window = s.path.window ∧ (s.beginBusy t).path.slots = s.path.slots ∧
    (s.beginBusy t).path.link = s.path.link ∧ (s.beginBusy t).pathUp = s.pathUp ∧ (s.beginBusy t).monNow = s.monNow ∧
    (s.beginBusy t).now = s.now := by
  unfold beginBusy; simp

@[simp] theorem offerRead_frame (s : State) (tag : Byte) (b : List Block) :
    (s.offerRead tag b).pending = s.pending ∧ (s.offerRead tag b).pins = s.pins ∧ (s.offerRead tag b).mon = s.mon ∧
    (s.offerRead tag b).path.intake = s.path.intake ∧ (s.offerRead tag b).path.engine = s.path.engine ∧
    (s.offerRead tag b).path.window = s.path.window ∧ (s.offerRead tag b).path.slots = s.path.slots ∧
    (s.offerRead tag b).pathUp = s.pathUp ∧ (s.offerRead tag b).monNow = s.monNow ∧
    (s.offerRead tag b).now = s.now := by
  unfold offerRead; simp

@[simp] theorem readBlock_frame (s : State) (t : Transaction) (b : List Block) :
    (s.readBlock t b).pending = s.pending ∧ (s.readBlock t b).pins = s.pins ∧ (s.readBlock t b).mon = s.mon ∧
    (s.readBlock t b).path.intake = s.path.intake ∧ (s.readBlock t b).path.engine = s.path.engine ∧
    (s.readBlock t b).path.window = s.path.window ∧ (s.readBlock t b).path.slots = s.path.slots ∧
    (s.readBlock t b).pathUp = s.pathUp ∧ (s.readBlock t b).monNow = s.monNow ∧
    (s.readBlock t b).now = s.now := by
  unfold readBlock; split <;> simp

@[simp] theorem takeRead_frame (s : State) (tag : Byte) (a : ReadArgs) :
    (s.takeRead tag a).pending = s.pending ∧ (s.takeRead tag a).pins = s.pins ∧ (s.takeRead tag a).mon = s.mon ∧
    (s.takeRead tag a).path.intake = s.path.intake ∧ (s.takeRead tag a).path.engine = s.path.engine ∧
    (s.takeRead tag a).path.window = s.path.window ∧ (s.takeRead tag a).path.slots = s.path.slots ∧
    (s.takeRead tag a).pathUp = s.pathUp ∧ (s.takeRead tag a).monNow = s.monNow ∧ (s.takeRead tag a).now = s.now := by
  unfold takeRead; (repeat' split) <;> simp

/-! ### The upstream lane -/

@[simp] theorem endRead_frame (s : State) (tag : Byte) :
    (s.endRead tag).pending = s.pending ∧ (s.endRead tag).pins = s.pins ∧ (s.endRead tag).mon = s.mon ∧
    (s.endRead tag).path.intake = s.path.intake ∧ (s.endRead tag).path.engine = s.path.engine ∧
    (s.endRead tag).path.window = s.path.window ∧ (s.endRead tag).path.slots = s.path.slots ∧
    (s.endRead tag).pathUp = s.pathUp ∧ (s.endRead tag).monNow = s.monNow ∧ (s.endRead tag).now = s.now := by
  unfold endRead; simp

@[simp] theorem endReadData_frame (s : State) :
    (s.endReadData).pending = s.pending ∧ (s.endReadData).pins = s.pins ∧ (s.endReadData).mon = s.mon ∧
    (s.endReadData).path.intake = s.path.intake ∧ (s.endReadData).path.engine = s.path.engine ∧
    (s.endReadData).path.window = s.path.window ∧ (s.endReadData).path.slots = s.path.slots ∧
    (s.endReadData).pathUp = s.pathUp ∧ (s.endReadData).monNow = s.monNow ∧ (s.endReadData).now = s.now := by
  unfold endReadData; (repeat' split) <;> simp

@[simp] theorem endUnit_frame (s : State) :
    (s.endUnit).pending = s.pending ∧ (s.endUnit).pins = s.pins ∧ (s.endUnit).mon = s.mon ∧
    (s.endUnit).path.intake = s.path.intake ∧ (s.endUnit).path.engine = s.path.engine ∧
    (s.endUnit).path.window = s.path.window ∧ (s.endUnit).path.slots = s.path.slots ∧
    (s.endUnit).pathUp = s.pathUp ∧ (s.endUnit).monNow = s.monNow ∧ (s.endUnit).now = s.now := by
  unfold endUnit; (repeat' split) <;> simp

end Sys2Proof.Machine.State
end

