-- ==== Sys2Proof/Laws/PerInstr.lean ====
section
/-! SUPPORT. The statements about every command as syntax, one lemma per constructor. -/

set_option Elab.async false

namespace Sys2Proof.Laws.F

/-- A command that carries a tag comes from the camera processor: requests alone are tagged (11 section 11.1). -/
def Statement (i : Instr) : Prop := i.tag?.isSome = true → i.sender = .processor

end Sys2Proof.Laws.F

namespace Sys2Proof.Laws

theorem F.powerOnReset : Sys2Proof.Laws.F.Statement (.powerOnReset) := by
  simp [Sys2Proof.Laws.F.Statement, Sys2Proof.Instr.tag?, Sys2Proof.Instr.sender]
theorem F.pathResetEnd : Sys2Proof.Laws.F.Statement (.pathResetEnd) := by
  simp [Sys2Proof.Laws.F.Statement, Sys2Proof.Instr.tag?, Sys2Proof.Instr.sender]
theorem F.dataReadyEdge : Sys2Proof.Laws.F.Statement (.dataReadyEdge) := by
  simp [Sys2Proof.Laws.F.Statement, Sys2Proof.Instr.tag?, Sys2Proof.Instr.sender]
theorem F.sampleReadComplete (bytes : Vector Byte 12) : Sys2Proof.Laws.F.Statement (.sampleReadComplete bytes) := by
  simp [Sys2Proof.Laws.F.Statement, Sys2Proof.Instr.tag?, Sys2Proof.Instr.sender]
theorem F.sampleIntegration : Sys2Proof.Laws.F.Statement (.sampleIntegration) := by
  simp [Sys2Proof.Laws.F.Statement, Sys2Proof.Instr.tag?, Sys2Proof.Instr.sender]
theorem F.imuSilent : Sys2Proof.Laws.F.Statement (.imuSilent) := by
  simp [Sys2Proof.Laws.F.Statement, Sys2Proof.Instr.tag?, Sys2Proof.Instr.sender]
theorem F.shockHoldExpiry : Sys2Proof.Laws.F.Statement (.shockHoldExpiry) := by
  simp [Sys2Proof.Laws.F.Statement, Sys2Proof.Instr.tag?, Sys2Proof.Instr.sender]
theorem F.motionSetup (tag : Byte) (args : MotionArgs) : Sys2Proof.Laws.F.Statement (.motionSetup tag args) := by
  simp [Sys2Proof.Laws.F.Statement, Sys2Proof.Instr.tag?, Sys2Proof.Instr.sender]
theorem F.imuWrite (tag : Byte) (address : Nat) (data : List Byte) : Sys2Proof.Laws.F.Statement (.imuWrite tag address data) := by
  simp [Sys2Proof.Laws.F.Statement, Sys2Proof.Instr.tag?, Sys2Proof.Instr.sender]
theorem F.imuWriteDone : Sys2Proof.Laws.F.Statement (.imuWriteDone) := by
  simp [Sys2Proof.Laws.F.Statement, Sys2Proof.Instr.tag?, Sys2Proof.Instr.sender]
theorem F.imuRead (tag : Byte) (address count : Nat) : Sys2Proof.Laws.F.Statement (.imuRead tag address count) := by
  simp [Sys2Proof.Laws.F.Statement, Sys2Proof.Instr.tag?, Sys2Proof.Instr.sender]
theorem F.imuReadDone (bytes : List Byte) : Sys2Proof.Laws.F.Statement (.imuReadDone bytes) := by
  simp [Sys2Proof.Laws.F.Statement, Sys2Proof.Instr.tag?, Sys2Proof.Instr.sender]
theorem F.lensTable (tag : Byte) (axis : Option LensAxis) (spacing : Nat) (entries : Vector Nat 17) : Sys2Proof.Laws.F.Statement (.lensTable tag axis spacing entries) := by
  simp [Sys2Proof.Laws.F.Statement, Sys2Proof.Instr.tag?, Sys2Proof.Instr.sender]
theorem F.steadyMode (tag : Byte) (mode : Option Mode) : Sys2Proof.Laws.F.Statement (.steadyMode tag mode) := by
  simp [Sys2Proof.Laws.F.Statement, Sys2Proof.Instr.tag?, Sys2Proof.Instr.sender]
theorem F.recenter (tag : Byte) : Sys2Proof.Laws.F.Statement (.recenter tag) := by
  simp [Sys2Proof.Laws.F.Statement, Sys2Proof.Instr.tag?, Sys2Proof.Instr.sender]
theorem F.loadGeometry (tag : Byte) (args : Geometry) : Sys2Proof.Laws.F.Statement (.loadGeometry tag args) := by
  simp [Sys2Proof.Laws.F.Statement, Sys2Proof.Instr.tag?, Sys2Proof.Instr.sender]
theorem F.frameStartUnit : Sys2Proof.Laws.F.Statement (.frameStartUnit) := by
  simp [Sys2Proof.Laws.F.Statement, Sys2Proof.Instr.tag?, Sys2Proof.Instr.sender]
theorem F.lineUnit (pixels : List Pixel) : Sys2Proof.Laws.F.Statement (.lineUnit pixels) := by
  simp [Sys2Proof.Laws.F.Statement, Sys2Proof.Instr.tag?, Sys2Proof.Instr.sender]
theorem F.frameEndUnit : Sys2Proof.Laws.F.Statement (.frameEndUnit) := by
  simp [Sys2Proof.Laws.F.Statement, Sys2Proof.Instr.tag?, Sys2Proof.Instr.sender]
theorem F.sensorStall : Sys2Proof.Laws.F.Statement (.sensorStall) := by
  simp [Sys2Proof.Laws.F.Statement, Sys2Proof.Instr.tag?, Sys2Proof.Instr.sender]
theorem F.clipArm (tag : Byte) (slot clip : Nat) (track : Option Bool) (lowWater : Option Nat) : Sys2Proof.Laws.F.Statement (.clipArm tag slot clip track lowWater) := by
  simp [Sys2Proof.Laws.F.Statement, Sys2Proof.Instr.tag?, Sys2Proof.Instr.sender]
theorem F.extentAdd (tag : Byte) (slot : Nat) (stream : Option Stream) (start length : Nat) : Sys2Proof.Laws.F.Statement (.extentAdd tag slot stream start length) := by
  simp [Sys2Proof.Laws.F.Statement, Sys2Proof.Instr.tag?, Sys2Proof.Instr.sender]
theorem F.clipStart (tag : Byte) (slot : Nat) : Sys2Proof.Laws.F.Statement (.clipStart tag slot) := by
  simp [Sys2Proof.Laws.F.Statement, Sys2Proof.Instr.tag?, Sys2Proof.Instr.sender]
theorem F.clipStop (tag : Byte) (slot : Nat) (last : FrameNo) : Sys2Proof.Laws.F.Statement (.clipStop tag slot last) := by
  simp [Sys2Proof.Laws.F.Statement, Sys2Proof.Instr.tag?, Sys2Proof.Instr.sender]
theorem F.clipDrop (tag : Byte) (slot : Nat) : Sys2Proof.Laws.F.Statement (.clipDrop tag slot) := by
  simp [Sys2Proof.Laws.F.Statement, Sys2Proof.Instr.tag?, Sys2Proof.Instr.sender]
theorem F.clipData (slot n : Nat) (payload : Option (List Block)) : Sys2Proof.Laws.F.Statement (.clipData slot n payload) := by
  simp [Sys2Proof.Laws.F.Statement, Sys2Proof.Instr.tag?, Sys2Proof.Instr.sender]
theorem F.plainWrite (start n : Nat) (payload : Option (List Block)) : Sys2Proof.Laws.F.Statement (.plainWrite start n payload) := by
  simp [Sys2Proof.Laws.F.Statement, Sys2Proof.Instr.tag?, Sys2Proof.Instr.sender]
theorem F.cardDetectRise : Sys2Proof.Laws.F.Statement (.cardDetectRise) := by
  simp [Sys2Proof.Laws.F.Statement, Sys2Proof.Instr.tag?, Sys2Proof.Instr.sender]
theorem F.cardDetectFall : Sys2Proof.Laws.F.Statement (.cardDetectFall) := by
  simp [Sys2Proof.Laws.F.Statement, Sys2Proof.Instr.tag?, Sys2Proof.Instr.sender]
theorem F.cardDebounceExpiry : Sys2Proof.Laws.F.Statement (.cardDebounceExpiry) := by
  simp [Sys2Proof.Laws.F.Statement, Sys2Proof.Instr.tag?, Sys2Proof.Instr.sender]
theorem F.cardStartResponse (response : StartResponse) : Sys2Proof.Laws.F.Statement (.cardStartResponse response) := by
  simp [Sys2Proof.Laws.F.Statement, Sys2Proof.Instr.tag?, Sys2Proof.Instr.sender]
theorem F.startDeadlineExpiry : Sys2Proof.Laws.F.Statement (.startDeadlineExpiry) := by
  simp [Sys2Proof.Laws.F.Statement, Sys2Proof.Instr.tag?, Sys2Proof.Instr.sender]
theorem F.cardRescan (tag : Byte) : Sys2Proof.Laws.F.Statement (.cardRescan tag) := by
  simp [Sys2Proof.Laws.F.Statement, Sys2Proof.Instr.tag?, Sys2Proof.Instr.sender]
theorem F.cardSetup (tag : Byte) (retryLimit writeTimeout readWait : Nat) : Sys2Proof.Laws.F.Statement (.cardSetup tag retryLimit writeTimeout readWait) := by
  simp [Sys2Proof.Laws.F.Statement, Sys2Proof.Instr.tag?, Sys2Proof.Instr.sender]
theorem F.transactionBegin : Sys2Proof.Laws.F.Statement (.transactionBegin) := by
  simp [Sys2Proof.Laws.F.Statement, Sys2Proof.Instr.tag?, Sys2Proof.Instr.sender]
theorem F.cardCommandResponse (good : Bool) : Sys2Proof.Laws.F.Statement (.cardCommandResponse good) := by
  simp [Sys2Proof.Laws.F.Statement, Sys2Proof.Instr.tag?, Sys2Proof.Instr.sender]
theorem F.writeBlockAck (good : Bool) : Sys2Proof.Laws.F.Statement (.writeBlockAck good) := by
  simp [Sys2Proof.Laws.F.Statement, Sys2Proof.Instr.tag?, Sys2Proof.Instr.sender]
theorem F.busyEnd : Sys2Proof.Laws.F.Statement (.busyEnd) := by
  simp [Sys2Proof.Laws.F.Statement, Sys2Proof.Instr.tag?, Sys2Proof.Instr.sender]
theorem F.busyTimeout : Sys2Proof.Laws.F.Statement (.busyTimeout) := by
  simp [Sys2Proof.Laws.F.Statement, Sys2Proof.Instr.tag?, Sys2Proof.Instr.sender]
theorem F.cardResponseTimeout : Sys2Proof.Laws.F.Statement (.cardResponseTimeout) := by
  simp [Sys2Proof.Laws.F.Statement, Sys2Proof.Instr.tag?, Sys2Proof.Instr.sender]
theorem F.readBlockReceived (block : Option Block) : Sys2Proof.Laws.F.Statement (.readBlockReceived block) := by
  simp [Sys2Proof.Laws.F.Statement, Sys2Proof.Instr.tag?, Sys2Proof.Instr.sender]
theorem F.retryBegin : Sys2Proof.Laws.F.Statement (.retryBegin) := by
  simp [Sys2Proof.Laws.F.Statement, Sys2Proof.Instr.tag?, Sys2Proof.Instr.sender]
theorem F.cardRead (tag : Byte) (payload : Option ReadArgs) : Sys2Proof.Laws.F.Statement (.cardRead tag payload) := by
  simp [Sys2Proof.Laws.F.Statement, Sys2Proof.Instr.tag?, Sys2Proof.Instr.sender]
theorem F.readWaitTimeout : Sys2Proof.Laws.F.Statement (.readWaitTimeout) := by
  simp [Sys2Proof.Laws.F.Statement, Sys2Proof.Instr.tag?, Sys2Proof.Instr.sender]
theorem F.bufferHandback : Sys2Proof.Laws.F.Statement (.bufferHandback) := by
  simp [Sys2Proof.Laws.F.Statement, Sys2Proof.Instr.tag?, Sys2Proof.Instr.sender]
theorem F.closingPad (slot : Fin 4) : Sys2Proof.Laws.F.Statement (.closingPad slot) := by
  simp [Sys2Proof.Laws.F.Statement, Sys2Proof.Instr.tag?, Sys2Proof.Instr.sender]
theorem F.summaryBuild (slot : Fin 4) : Sys2Proof.Laws.F.Statement (.summaryBuild slot) := by
  simp [Sys2Proof.Laws.F.Statement, Sys2Proof.Instr.tag?, Sys2Proof.Instr.sender]
theorem F.currentResult (milliamps : Int) : Sys2Proof.Laws.F.Statement (.currentResult milliamps) := by
  simp [Sys2Proof.Laws.F.Statement, Sys2Proof.Instr.tag?, Sys2Proof.Instr.sender]
theorem F.voltageResult (value : Int) : Sys2Proof.Laws.F.Statement (.voltageResult value) := by
  simp [Sys2Proof.Laws.F.Statement, Sys2Proof.Instr.tag?, Sys2Proof.Instr.sender]
theorem F.currentRate (tag : Byte) (rate : Nat) : Sys2Proof.Laws.F.Statement (.currentRate tag rate) := by
  simp [Sys2Proof.Laws.F.Statement, Sys2Proof.Instr.tag?, Sys2Proof.Instr.sender]
theorem F.scanList (tag : Byte) (entries : List ScanArg) : Sys2Proof.Laws.F.Statement (.scanList tag entries) := by
  simp [Sys2Proof.Laws.F.Statement, Sys2Proof.Instr.tag?, Sys2Proof.Instr.sender]
theorem F.counterSet (tag : Byte) (args : CounterArgs) : Sys2Proof.Laws.F.Statement (.counterSet tag args) := by
  simp [Sys2Proof.Laws.F.Statement, Sys2Proof.Instr.tag?, Sys2Proof.Instr.sender]
theorem F.scComparatorRise : Sys2Proof.Laws.F.Statement (.scComparatorRise) := by
  simp [Sys2Proof.Laws.F.Statement, Sys2Proof.Instr.tag?, Sys2Proof.Instr.sender]
theorem F.scComparatorFall : Sys2Proof.Laws.F.Statement (.scComparatorFall) := by
  simp [Sys2Proof.Laws.F.Statement, Sys2Proof.Instr.tag?, Sys2Proof.Instr.sender]
theorem F.scDelayExpiry : Sys2Proof.Laws.F.Statement (.scDelayExpiry) := by
  simp [Sys2Proof.Laws.F.Statement, Sys2Proof.Instr.tag?, Sys2Proof.Instr.sender]
theorem F.docTimerExpiry : Sys2Proof.Laws.F.Statement (.docTimerExpiry) := by
  simp [Sys2Proof.Laws.F.Statement, Sys2Proof.Instr.tag?, Sys2Proof.Instr.sender]
theorem F.cocTimerExpiry : Sys2Proof.Laws.F.Statement (.cocTimerExpiry) := by
  simp [Sys2Proof.Laws.F.Statement, Sys2Proof.Instr.tag?, Sys2Proof.Instr.sender]
theorem F.covTimerExpiry : Sys2Proof.Laws.F.Statement (.covTimerExpiry) := by
  simp [Sys2Proof.Laws.F.Statement, Sys2Proof.Instr.tag?, Sys2Proof.Instr.sender]
theorem F.duvWarningExpiry : Sys2Proof.Laws.F.Statement (.duvWarningExpiry) := by
  simp [Sys2Proof.Laws.F.Statement, Sys2Proof.Instr.tag?, Sys2Proof.Instr.sender]
theorem F.duvCutExpiry : Sys2Proof.Laws.F.Statement (.duvCutExpiry) := by
  simp [Sys2Proof.Laws.F.Statement, Sys2Proof.Instr.tag?, Sys2Proof.Instr.sender]
theorem F.dischargeHoldoffExpiry : Sys2Proof.Laws.F.Statement (.dischargeHoldoffExpiry) := by
  simp [Sys2Proof.Laws.F.Statement, Sys2Proof.Instr.tag?, Sys2Proof.Instr.sender]
theorem F.chargeHoldoffExpiry : Sys2Proof.Laws.F.Statement (.chargeHoldoffExpiry) := by
  simp [Sys2Proof.Laws.F.Statement, Sys2Proof.Instr.tag?, Sys2Proof.Instr.sender]
theorem F.dischargeSwitch (tag : Byte) (on : Option Bool) : Sys2Proof.Laws.F.Statement (.dischargeSwitch tag on) := by
  simp [Sys2Proof.Laws.F.Statement, Sys2Proof.Instr.tag?, Sys2Proof.Instr.sender]
theorem F.balanceSet (tag : Byte) (mode : BalanceArg) : Sys2Proof.Laws.F.Statement (.balanceSet tag mode) := by
  simp [Sys2Proof.Laws.F.Statement, Sys2Proof.Instr.tag?, Sys2Proof.Instr.sender]
theorem F.protectSetup (tag : Byte) (args : ProtectArgs) : Sys2Proof.Laws.F.Statement (.protectSetup tag args) := by
  simp [Sys2Proof.Laws.F.Statement, Sys2Proof.Instr.tag?, Sys2Proof.Instr.sender]
theorem F.protectTransferExpiry (signal : Bool) : Sys2Proof.Laws.F.Statement (.protectTransferExpiry signal) := by
  simp [Sys2Proof.Laws.F.Statement, Sys2Proof.Instr.tag?, Sys2Proof.Instr.sender]
theorem F.chargeInhibit (tag : Byte) (on : Option Bool) : Sys2Proof.Laws.F.Statement (.chargeInhibit tag on) := by
  simp [Sys2Proof.Laws.F.Statement, Sys2Proof.Instr.tag?, Sys2Proof.Instr.sender]
theorem F.chargeSetup (tag : Byte) (args : ChargeSettings) : Sys2Proof.Laws.F.Statement (.chargeSetup tag args) := by
  simp [Sys2Proof.Laws.F.Statement, Sys2Proof.Instr.tag?, Sys2Proof.Instr.sender]
theorem F.qualifyDeadlineExpiry : Sys2Proof.Laws.F.Statement (.qualifyDeadlineExpiry) := by
  simp [Sys2Proof.Laws.F.Statement, Sys2Proof.Instr.tag?, Sys2Proof.Instr.sender]
theorem F.prechargeTimerExpiry : Sys2Proof.Laws.F.Statement (.prechargeTimerExpiry) := by
  simp [Sys2Proof.Laws.F.Statement, Sys2Proof.Instr.tag?, Sys2Proof.Instr.sender]
theorem F.fastTimerExpiry : Sys2Proof.Laws.F.Statement (.fastTimerExpiry) := by
  simp [Sys2Proof.Laws.F.Statement, Sys2Proof.Instr.tag?, Sys2Proof.Instr.sender]
theorem F.zeroDeadlineExpiry : Sys2Proof.Laws.F.Statement (.zeroDeadlineExpiry) := by
  simp [Sys2Proof.Laws.F.Statement, Sys2Proof.Instr.tag?, Sys2Proof.Instr.sender]
theorem F.weakClearExpiry : Sys2Proof.Laws.F.Statement (.weakClearExpiry) := by
  simp [Sys2Proof.Laws.F.Statement, Sys2Proof.Instr.tag?, Sys2Proof.Instr.sender]
theorem F.pathReset (tag : Byte) (force : Option Bool) : Sys2Proof.Laws.F.Statement (.pathReset tag force) := by
  simp [Sys2Proof.Laws.F.Statement, Sys2Proof.Instr.tag?, Sys2Proof.Instr.sender]
theorem F.headerError : Sys2Proof.Laws.F.Statement (.headerError) := by
  simp [Sys2Proof.Laws.F.Statement, Sys2Proof.Instr.tag?, Sys2Proof.Instr.sender]
theorem F.unknownRequest (tag : Byte) (code : Option Byte) : Sys2Proof.Laws.F.Statement (.unknownRequest tag code) := by
  simp [Sys2Proof.Laws.F.Statement, Sys2Proof.Instr.tag?, Sys2Proof.Instr.sender]
theorem F.upstreamUnitSent : Sys2Proof.Laws.F.Statement (.upstreamUnitSent) := by
  simp [Sys2Proof.Laws.F.Statement, Sys2Proof.Instr.tag?, Sys2Proof.Instr.sender]
theorem F.identify (tag : Byte) : Sys2Proof.Laws.F.Statement (.identify tag) := by
  simp [Sys2Proof.Laws.F.Statement, Sys2Proof.Instr.tag?, Sys2Proof.Instr.sender]
theorem F.statusRead (tag : Byte) : Sys2Proof.Laws.F.Statement (.statusRead tag) := by
  simp [Sys2Proof.Laws.F.Statement, Sys2Proof.Instr.tag?, Sys2Proof.Instr.sender]
theorem F.energyRead (tag : Byte) : Sys2Proof.Laws.F.Statement (.energyRead tag) := by
  simp [Sys2Proof.Laws.F.Statement, Sys2Proof.Instr.tag?, Sys2Proof.Instr.sender]
theorem F.controlPayloadFailure (tag : Byte) : Sys2Proof.Laws.F.Statement (.controlPayloadFailure tag) := by
  simp [Sys2Proof.Laws.F.Statement, Sys2Proof.Instr.tag?, Sys2Proof.Instr.sender]

end Sys2Proof.Laws
end

