-- ==== Sys2Proof/Machine/Wire.lean ====
section
/-! DEFINITION. The bytes of what leaves the part (12, R169 to R171): upstream units, the frame record, track and summary
blocks, the blocks of a card write, the bytes sent to the inertial sensor. Where R170 leaves a numbering or a width to be
read from several rules, log 19 says which reading is taken. -/

namespace Sys2Proof.Machine

/-! ### Fields (R170) -/

/-- A signed number in k bytes, two's complement. -/
def signedBytes (k : Nat) (z : Int) : List Byte := leBytes k (BitVec.ofInt (8 * k) z).toNat

/-- A field that may be absent: its presence byte, then its k bytes, all 0 when it is absent. -/
def optionalBytes (k : Nat) (v : Option Nat) : List Byte :=
  match v with
  | none => List.replicate (k + 1) 0
  | some n => 1 :: leBytes k n

/-- A flag or latch, 1 when it is set. -/
def flagByte (b : Bool) : Byte := if b then 1 else 0

/-- The names on, off as 01 section 1.2 lists them. -/
def onOffByte (b : Bool) : Byte := if b then 0 else 1

/-- The position of a name in its list, as a byte. -/
def nameByte {α : Type} [DecidableEq α] (names : List α) (a : α) : Byte := BitVec.ofNat 8 (names.idxOf a)

/-! ### Numbers of names, in the order of their lists (R170, log 19) -/

/-- Reply codes (00). -/
def replyCodes : List ReplyCode :=
  [.ok, .accepted, .busy, .badArg, .badState, .noSpace, .overlap, .lowEnergy, .noCard, .holdoff, .tableOrder, .duplicate,
    .timeout, .cardError, .outOfRange, .badCheck, .unknown]

/-- Pixel path states (03 section 3.2). -/
def pixelPathNames : List PixelPath := [.idle, .inFrame, .between]
/-- Clip slot states (04 section 4.1). -/
def slotStateNames : List SlotState := [.free, .armed, .recording, .closing]
/-- Seal causes (04 section 4.1). -/
def sealCauseNames : List SealCause := [.stop, .power]
/-- Results of a handback, whose list is the first to hold DONE and REMOVED (R77, R170). -/
def handbackNames : List HandbackResult := [.done, .failed, .removed]
/-- Causes of DATA DISCARDED (R66, then the further ones of R69). -/
def discardCauseNames : List DiscardCause :=
  [.link, .badState, .noSpace, .overrun, .queueFull, .noCard, .outOfRange, .overlap]
/-- Card states (05 section 5.3). -/
def cardStateNames : List CardState := [.absent, .starting, .ready, .failed]
/-- Causes of CARD STATE (05 section 5.3). -/
def cardCauseNames : List CardCause := [.inserted, .started, .startFailed, .rescan, .transactions, .removed]
/-- A cause of CARD STATE as a byte: REMOVED has its number of R77 (R170, log 19). -/
def CardCause.nameNumber (c : CardCause) : Byte :=
  if c = .removed then nameByte handbackNames .removed else nameByte cardCauseNames c
/-- The cause of CLIP LOST as a byte: FAILED has its number as a card state and REMOVED that of R77, the first lists to hold
them (R107, R170, log 19). -/
def LossCause.nameNumber (c : LossCause) : Byte :=
  match c with
  | .removed => nameByte handbackNames .removed
  | .failed => nameByte cardStateNames .failed
/-- Outcomes of an attempt other than DONE, which is 0 (05 section 5.4). -/
def failureNames : List AttemptFailure := [.crcError, .noResponse, .busyTimeout]
/-- Energy states (10). -/
def energyStateNames : List EnergyState := [.supplied, .battery, .low, .critical]
/-- Causes of a path reset (00). -/
def resetCauseNames : List ResetCause := [.por, .rail, .request]
/-- Protection conditions (08 section 8.1). -/
def conditionNames : List Condition := [.sc, .doc, .coc, .cov, .duv]
/-- Actions of PROTECTION TRIP (R135). -/
def actionNames : List TripAction := [.dischargeOff, .chargeOff, .chargeBlocked, .duvCut]
/-- What PROTECTION CLEAR clears (R135). -/
def clearedNames : List Cleared := [.dischargeTrip, .chargeTrip, .lockout, .covBlock, .duvCut]
/-- Causes of PROTECTION CLEAR (R135). -/
def clearCauseNames : List ClearCause := [.holdoffEnd, .inputPresent, .release]
/-- Charger states (09 section 9.2). -/
def chargerStateNames : List ChargerState :=
  [.noInput, .inhibited, .qualify, .precharge, .cc, .cv, .done, .hold, .fault]
/-- A charger state as a byte: DONE has its number of R77, whose list is the first to hold it, and so the byte of NO_INPUT
(R170, log 19). -/
def ChargerState.nameNumber (c : ChargerState) : Byte :=
  if c = .done then nameByte handbackNames .done else nameByte chargerStateNames c
/-- Causes of CHARGER STATE (R150). -/
def chargerCauseNames : List ChargerCause :=
  [.inputPresent, .inputAbsent, .inhibitOn, .inhibitOff, .qualified, .prechargeDone, .cvReached, .terminated, .recharge,
    .holdEntered, .holdCleared, .prechargeTimer, .fastTimer]
/-- A cause of CHARGER STATE as a byte: INPUT_PRESENT has its number of R135, whose list is the first to hold it, and so the
byte of INPUT_ABSENT (R170, log 19). -/
def ChargerCause.nameNumber (c : ChargerCause) : Byte :=
  if c = .inputPresent then nameByte clearCauseNames .inputPresent else nameByte chargerCauseNames c
/-- Causes of ENERGY STATE (R152). -/
def energyCauseNames : List EnergyCause :=
  [.warningBegun, .warningEnded, .inputPresent, .inputAbsent, .soc, .cell, .levels]
/-- A cause of ENERGY STATE as a byte: INPUT_PRESENT and INPUT_ABSENT have their numbers of R135 and R150, whose lists are the
first to hold them (R170, log 19). -/
def EnergyCause.nameNumber (c : EnergyCause) : Byte :=
  match c with
  | .inputPresent => nameByte clearCauseNames .inputPresent
  | .inputAbsent => nameByte chargerCauseNames .inputAbsent
  | c => nameByte energyCauseNames c
/-- Balance modes (R133). -/
def balanceModeNames : List BalanceMode := [.auto, .manual]
/-- Packet kinds of REQUEST LOST (R161). -/
def requestKindNames : List RequestKind := [.control, .cardRead]

/-! ### The frame record and the blocks on the card (12 sections 12.3 and 12.4) -/

/-- The 64 bytes of a frame record (12 section 12.3). -/
def FrameRecord.bytes (r : FrameRecord) : List Byte :=
  leBytes 4 r.number.toNat ++ leBytes 4 r.start.toNat ++ leBytes 2 r.x0 ++ leBytes 2 r.y0 ++ leBytes 2 r.lines ++
  leBytes 1 r.bandCount ++ leBytes 1 r.flags.toNat ++ signedBytes 4 r.shake.yaw ++ signedBytes 4 r.shake.pitch ++
  signedBytes 4 r.shake.roll ++ leBytes 4 r.peak ++ (r.bands.toList.map (leBytes 2)).flatten

/-- The 512 bytes of a track block: eight records (R171). -/
def trackBlock (records : List FrameRecord) : List Byte := (records.map FrameRecord.bytes).flatten

/-- An extent list of n places of the summary, unused places 0 (12 section 12.4). -/
def extentBytes (n : Nat) (list : List Extent) : List Byte :=
  ((list.map fun (e : Extent) => leBytes 4 e.start ++ leBytes 4 e.length) ++
    List.replicate (n - list.length) (List.replicate 8 0)).flatten

/-- A frame number of a summary, or 0. -/
def frameBytes (n : Option FrameNo) : List Byte := leBytes 4 ((n.map BitVec.toNat).getD 0)

/-- The first fault block as the summary holds it: 0xFFFFFFFF when there is none (12 section 12.4). -/
def firstFaultBytes (n : Option Nat) : List Byte := leBytes 4 (n.getD 4294967295)

/-- The seal cause as the summary holds it. -/
def Summary.causeByte (s : Summary) : Byte := nameByte sealCauseNames (s.cause.getD .stop)

/-- The 512 bytes of the summary block (R171). -/
def Summary.bytes (s : Summary) : List Byte :=
  leBytes 2 Config.summaryFormat ++ leBytes 2 s.clip ++ [s.causeByte] ++
  leBytes 1 (flagBit s.track 1 + flagBit (decide (s.faults ≠ 0)) 2) ++ leBytes 2 0 ++
  frameBytes s.startFrame ++ frameBytes s.stopFrame ++ frameBytes s.firstStamp ++ leBytes 4 s.accepted ++
  leBytes 4 s.written ++ leBytes 4 s.faults ++ firstFaultBytes s.firstFault ++ leBytes 4 s.gaps ++
  leBytes 4 s.recordsWritten ++ leBytes 4 s.recordsLost ++ extentBytes 16 s.video ++ extentBytes 2 s.trackList ++
  List.replicate 320 0

/-- The blocks of an entry: those of its packet, or its slot's track buffer (R76, R171). -/
def State.entryBlocks (s : State) (e : Entry) : List (List Byte) :=
  match e.owner, e.data with
  | _, .blocks blocks => blocks.map Vector.toList
  | .slot i _, .buffer b =>
    match (s.slot i).buffers[b] with
    | .queuedTrack records => [trackBlock records]
    | .queuedSummary summary => [summary.bytes]
    | _ => []
  | .plain, .buffer _ => []

/-- The bytes of block i of the WRITE transaction in flight, in queue order as one run (R82, R85). -/
def State.transferBlock (s : State) (i : Nat) : Option (List Byte) :=
  match s.path.card.transaction with
  | some ⟨.write k, _, _, _, _, _, _, _, _⟩ => ((s.path.card.queue.take k).map s.entryBlocks).flatten[i]?
  | _ => none

/-! ### The inertial port (R6, R13, R14) -/

/-- The bytes sent to the inertial sensor in the transfer that occupies the port: the address with its top bit set for a
read and clear for a write, then the bytes written (R6, R13, R14). -/
def Port.sent (p : Port) : List Byte :=
  match p with
  | .free => []
  | .sampleRead _ start _ => [BitVec.ofNat 8 (start + 128)]
  | .passWrite _ address data => BitVec.ofNat 8 address :: data
  | .passRead _ address _ => [BitVec.ofNat 8 (address + 128)]

/-! ### Reply data -/

/-- The fifteen counters, 32 bits each (R166). -/
def StatusCounters.bytes (c : StatusCounters) : List Byte :=
  ([c.unsetFrames, c.orphanLines, c.shortFrames, c.stalls, c.overruns, c.gaps, c.silentEntries, c.transactions,
    c.countedRetries, c.uncountedRetries, c.failedTransactions, c.headerErrors, c.payloadErrors, c.requestsLost,
    c.noticesLost].map (leBytes 4)).flatten

/-- A channel's latest result and its monitor time, or unknown (R167). -/
def measuredBytes (m : Option Measured) : List Byte :=
  match m with
  | none => List.replicate 7 0
  | some m => 1 :: signedBytes 2 m.value ++ leBytes 4 m.time.toNat

/-- The content of ENERGY READ (R167). -/
def EnergySnapshot.bytes (e : EnergySnapshot) : List Byte :=
  ([e.current, e.cell1, e.cell2, e.input, e.battTemp, e.dieTemp, e.pack].map measuredBytes).flatten ++
  signedBytes 4 e.charge ++ signedBytes 2 e.soc ++ [flagByte e.seeded] ++
  [e.charger.nameNumber, BitVec.ofNat 8 e.causes.toNat] ++ leBytes 2 e.setpoint ++
  [onOffByte e.switches.discharge, onOffByte e.switches.charge, onOffByte e.switches.precharge,
    onOffByte e.switches.balance1, onOffByte e.switches.balance2, flagByte e.dischargeRequest,
    nameByte balanceModeNames e.balanceMode] ++
  [flagByte e.dischargeTrip, flagByte e.chargeTrip, flagByte e.lockout, flagByte e.duvCut, flagByte e.covBlocking,
    flagByte e.earlyWarning] ++
  leBytes 2 e.dischargeLeft ++ leBytes 2 e.chargeLeft ++
  leBytes 1 e.recentTrips.length ++ (e.recentTrips.map fun t => leBytes 4 t.toNat).flatten ++
  [nameByte energyStateNames e.energy] ++ leBytes 4 e.time.toNat

/-- Result data in bytes (R170). -/
def ReplyData.encode (d : ReplyData) : List Byte :=
  match d with
  | .none => []
  | .bytes b => leBytes 1 b.length ++ b
  | .readTag tag => [tag]
  | .identity family part revision => leBytes 1 family ++ leBytes 2 part ++ leBytes 1 revision
  | .counters c => c.bytes
  | .balance mode m1 m2 o1 o2 => [nameByte balanceModeNames mode, onOffByte m1, onOffByte m2, onOffByte o1, onOffByte o2]
  | .energy e => e.bytes

/-- The bytes of one part of a reply: 64 bytes at most, the reply code in the first alone (R162, 12 section 12.2). -/
def Reply.partBytes (r : Reply) (part : Nat) : List Byte :=
  ((nameByte replyCodes r.code :: r.data.encode).drop (64 * part)).take 64

/-! ### Notices -/

/-- Notice kind codes (12 section 12.2). -/
def Notice.code (n : Notice) : Byte :=
  match n with
  | .pathReady .. => 1
  | .sensorStall .. => 2
  | .imuSilent .. => 3
  | .spaceLow .. => 4
  | .clipSealed .. => 5
  | .clipLost .. => 6
  | .clipDropped .. => 7
  | .dataDiscarded .. => 8
  | .writeFault .. => 9
  | .cardState .. => 10
  | .energyState .. => 11
  | .protectionTrip .. => 12
  | .protectionClear .. => 13
  | .chargerState .. => 14
  | .linkError .. => 15
  | .requestLost .. => 16

/-- An entry of the retained clip list (R156). -/
def RetainedClip.bytes (c : RetainedClip) : List Byte :=
  leBytes 1 c.slot ++ leBytes 2 c.clip ++
  [nameByte slotStateNames (if c.closing then .closing else .recording)] ++ leBytes 4 c.written

/-- The closing step as CLIP LOST names it (06 section 6.4). -/
def ClosingStep.number (c : ClosingStep) : Option Nat :=
  match c with
  | .none => Option.none
  | .owed => some 1
  | .pad => some 2
  | .drain => some 3
  | .build => some 4
  | .sealing => some 5

/-- The fields of a CLIP SEALED notice (R106). -/
def Summary.noticeBytes (s : Summary) (failed : Bool) : List Byte :=
  leBytes 2 s.clip ++ [s.causeByte] ++ frameBytes s.startFrame ++ frameBytes s.stopFrame ++ leBytes 4 s.accepted ++
  leBytes 4 s.written ++ leBytes 4 s.gaps ++ leBytes 4 s.faults ++ firstFaultBytes s.firstFault ++
  leBytes 4 s.recordsWritten ++ leBytes 4 s.recordsLost ++
  leBytes 1 (flagBit s.track 1 + flagBit (decide (s.faults ≠ 0)) 2 + flagBit failed 4)

/-- The owner of a WRITE FAULT, one of two forms (R88, R170). -/
def FaultOwner.bytes (o : FaultOwner) : List Byte :=
  match o with
  | .slot i clip => 0 :: leBytes 1 i ++ leBytes 2 clip
  | .plain => [1, 0, 0, 0]

/-- A signed value that may be unknown, in two bytes. -/
def optionalSigned (v : Option Int) : List Byte :=
  match v with
  | none => [0, 0, 0]
  | some z => 1 :: signedBytes 2 z

/-- The fields of a notice, in the order of its owning rule (R170). The streams of a WRITE FAULT are one byte in both forms of
its owner, without a presence byte; for PLAIN it is 0 (log 33). -/
def Notice.bytes (n : Notice) : List Byte :=
  match n with
  | .pathReady cause retained energy charger =>
    [nameByte resetCauseNames cause] ++ leBytes 1 retained.length ++ (retained.map RetainedClip.bytes).flatten ++
    [nameByte energyStateNames energy, charger.nameNumber]
  | .sensorStall state lastBegun lines rows counter stalls =>
    [nameByte pixelPathNames state] ++ optionalBytes 4 (lastBegun.map BitVec.toNat) ++ optionalBytes 2 lines ++
    optionalBytes 4 rows ++ leBytes 4 counter.toNat ++ leBytes 4 stalls
  | .imuSilent entered lastEdge => leBytes 4 entered.toNat ++ optionalBytes 4 (lastEdge.map BitVec.toNat)
  | .spaceLow i clip remaining lowWater => leBytes 1 i ++ leBytes 2 clip ++ leBytes 4 remaining ++ leBytes 2 lowWater
  | .clipSealed i summary failed => leBytes 1 i ++ summary.noticeBytes failed
  | .clipLost i clip state step cause start stop accepted written gaps faults firstFault =>
    leBytes 1 i ++ leBytes 2 clip ++ [nameByte slotStateNames state] ++ optionalBytes 1 step.number ++
    [cause.nameNumber] ++ optionalBytes 4 (start.map BitVec.toNat) ++
    optionalBytes 4 (stop.map BitVec.toNat) ++ leBytes 4 accepted ++ leBytes 4 written ++ leBytes 4 gaps ++
    leBytes 4 faults ++ optionalBytes 4 firstFault
  | .clipDropped i clip cause => leBytes 1 i ++ leBytes 2 clip ++ [nameByte sealCauseNames cause]
  | .dataDiscarded slot start count cause gaps =>
    [if slot.isSome then 0 else 1] ++ optionalBytes 1 (slot.map Fin.val) ++ optionalBytes 4 start ++ leBytes 1 count ++
    [nameByte discardCauseNames cause] ++ optionalBytes 4 gaps
  | .writeFault owner streams start count outcome attempts =>
    owner.bytes ++ leBytes 1 (flagBit streams.video 1 + flagBit streams.track 2 + flagBit streams.summary 4) ++
    leBytes 4 start ++ leBytes 1 count ++ [1 + nameByte failureNames outcome] ++ leBytes 1 attempts
  | .cardState new old cause capacity =>
    [nameByte cardStateNames new, nameByte cardStateNames old, cause.nameNumber] ++ optionalBytes 5 capacity
  | .energyState new old cause soc seeded lowerCell time =>
    [nameByte energyStateNames new, nameByte energyStateNames old, cause.nameNumber] ++
    signedBytes 2 soc ++ [flagByte seeded] ++ optionalSigned lowerCell ++ leBytes 4 time.toNat
  | .protectionTrip condition action measurement time lockout holdoffMs =>
    [nameByte conditionNames condition, nameByte actionNames action] ++ optionalSigned measurement ++
    leBytes 4 time.toNat ++ [flagByte lockout] ++ leBytes 2 holdoffMs
  | .protectionClear cleared cause time discharge =>
    [nameByte clearedNames cleared, nameByte clearCauseNames cause] ++ leBytes 4 time.toNat ++ [onOffByte discharge]
  | .chargerState new old cause causes setpoint time =>
    [new.nameNumber, old.nameNumber, cause.nameNumber,
      BitVec.ofNat 8 causes.toNat] ++ leBytes 2 setpoint ++ leBytes 4 time.toNat
  | .linkError headerErrors received => leBytes 4 headerErrors ++ leBytes 2 received.toNat
  | .requestLost tag kind => [tag, nameByte requestKindNames kind]

/-! ### Upstream units (12 section 12.2) -/

/-- The 19 bytes of a FRAME HEADER (12 section 12.2). -/
def FrameHeader.bytes (h : FrameHeader) : List Byte :=
  leBytes 4 h.number.toNat ++ leBytes 4 h.start.toNat ++ leBytes 2 h.x0 ++ leBytes 2 h.y0 ++ leBytes 2 h.w ++
  leBytes 2 h.h ++ leBytes 2 h.generation.toNat ++ leBytes 1 h.bands

/-- A cell: its header, its payload, and the 16-bit check over both (12 section 12.2, R170). -/
def cellBytes (kind second fourth : Byte) (payload : List Byte) : List Byte :=
  let body := [kind, second, BitVec.ofNat 8 payload.length, fourth] ++ payload
  body ++ leBytes 2 (check16 body).toNat

/-- A line: its header, its pixels, and the 32-bit check over both (12 section 12.2, R170). -/
def lineBytes (index : Nat) (pixels : List Pixel) : List Byte :=
  let body := [1, 0] ++ leBytes 2 index ++ (pixels.map fun p => leBytes 2 p.toNat).flatten
  body ++ leBytes 4 (check32 body).toNat

/-- The bytes of a unit of the upstream lane (12 section 12.2). -/
def LaneUnit.bytes (u : LaneUnit) : List Byte :=
  match u with
  | .frame (.header h) => cellBytes 0x10 0 0 h.bytes
  | .frame (.trailer r) => cellBytes 0x11 0 0 r.bytes
  | .frame (.line i pixels) => lineBytes i pixels
  | .reply r part last => cellBytes 0x20 r.tag (BitVec.ofNat 8 part + if last then 0x80 else 0) (r.partBytes part)
  | .readData tag block part bytes => cellBytes 0x30 tag (BitVec.ofNat 8 (8 * block + part)) bytes
  | .credit released => cellBytes 0x40 0 0 (leBytes 2 released.toNat)
  | .notice n lost => cellBytes 0x50 n.code 0 (leBytes 2 lost ++ n.bytes)

end Sys2Proof.Machine
end

