-- ==== Sys2Proof/Tests/Slice0.lean ====
section
/-! SUPPORT. Tests: an ill-formed command for each check of WellFormed; figures of the spec's worked examples; and for each
statement with hypotheses a state and operands that meet them, clause by clause, at the ends of their ranges. -/

set_option Elab.async false

namespace Sys2Proof.Tests
open Sys2Proof.Machine

/-! ### Well-formedness: one ill-formed command for each check, and one well-formed -/

/-- The setup of a path reset, as arguments. -/
def motionArgs : MotionArgs :=
  ⟨some true, 0, some .highFirst, ⟨some .z, some .y, some .x⟩, ⟨some .plus, some .plus, some .plus⟩, ⟨0, 0, 0⟩, 0, 30,
    ⟨16, 16, 16⟩, ⟨0, 0, 0⟩, ⟨2000000, 2000000, 2000000⟩⟩

/-- A geometry with margins 32 and 16 and two bands. -/
def geo : Geometry := ⟨128, 64, 64, 32, 2, 50⟩

/-- A lens table of step 4000 that maps full scale to 90 pixels, rounded (02, the worked example's table). -/
def lens : LensTable :=
  ⟨4000, #v[0, 96, 192, 287, 382, 476, 569, 661, 752, 842, 931, 1019, 1106, 1192, 1277, 1361, 1444]⟩

theorem test_motion_well_formed :
    (Instr.motionSetup 0 motionArgs).wellFormed = true ∧
    (Instr.motionSetup 0 { motionArgs with startAddress := 256 }).wellFormed = false ∧
    (Instr.motionSetup 0 { motionArgs with bias := ⟨0, 32768, 0⟩ }).wellFormed = false ∧
    (Instr.motionSetup 0 { motionArgs with threshold := 16777216 }).wellFormed = false ∧
    (Instr.motionSetup 0 { motionArgs with holdMs := 256 }).wellFormed = false ∧
    (Instr.motionSetup 0 { motionArgs with rate := ⟨65536, 0, 0⟩ }).wellFormed = false ∧
    (Instr.motionSetup 0 { motionArgs with leak := ⟨0, 0, 65536⟩ }).wellFormed = false ∧
    (Instr.motionSetup 0 { motionArgs with limit := ⟨0, 16777216, 0⟩ }).wellFormed = false := by decide

theorem test_inertial_transfers_well_formed :
    (Instr.imuWrite 0 255 []).wellFormed = true ∧ (Instr.imuWrite 0 256 []).wellFormed = false ∧
    (Instr.imuWrite 0 0 (List.replicate 253 0)).wellFormed = false ∧ (Instr.imuRead 0 0 255).wellFormed = true ∧
    (Instr.imuRead 0 256 1).wellFormed = false ∧ (Instr.imuRead 0 0 256).wellFormed = false ∧
    (Instr.imuReadDone (List.replicate 9 0)).wellFormed = false := by decide +kernel

theorem test_window_requests_well_formed :
    (Instr.lensTable 0 none 65535 lens.entries).wellFormed = true ∧
    (Instr.lensTable 0 none 65536 lens.entries).wellFormed = false ∧
    (Instr.lensTable 0 none 0 (Vector.replicate 17 65536)).wellFormed = false ∧
    (Instr.loadGeometry 0 geo).wellFormed = true ∧
    (Instr.loadGeometry 0 { geo with sensorW := 65536 }).wellFormed = false ∧
    (Instr.loadGeometry 0 { geo with sensorH := 65536 }).wellFormed = false ∧
    (Instr.loadGeometry 0 { geo with w := 65536 }).wellFormed = false ∧
    (Instr.loadGeometry 0 { geo with h := 65536 }).wellFormed = false ∧
    (Instr.loadGeometry 0 { geo with bands := 256 }).wellFormed = false ∧
    (Instr.loadGeometry 0 { geo with watchMs := 65536 }).wellFormed = false := by decide

theorem test_clip_requests_well_formed :
    (Instr.clipArm 0 3 65535 none none).wellFormed = true ∧ (Instr.clipArm 0 256 1 none none).wellFormed = false ∧
    (Instr.clipArm 0 0 65536 none none).wellFormed = false ∧
    (Instr.clipArm 0 0 1 none (some 65536)).wellFormed = false ∧
    (Instr.extentAdd 0 256 none 0 0).wellFormed = false ∧
    (Instr.extentAdd 0 0 none 4294967296 0).wellFormed = false ∧
    (Instr.extentAdd 0 0 none 0 4294967296).wellFormed = false ∧ (Instr.clipStart 0 256).wellFormed = false ∧
    (Instr.clipStop 0 256 0).wellFormed = false ∧ (Instr.clipDrop 0 256).wellFormed = false := by decide

theorem test_data_packets_well_formed :
    (Instr.clipData 0 1 none).wellFormed = true ∧ (Instr.clipData 256 1 none).wellFormed = false ∧
    (Instr.clipData 0 256 none).wellFormed = false ∧ (Instr.clipData 0 1 (some [])).wellFormed = false ∧
    (Instr.plainWrite 4294967295 1 none).wellFormed = true ∧
    (Instr.plainWrite 4294967296 1 none).wellFormed = false ∧ (Instr.plainWrite 0 256 none).wellFormed = false ∧
    (Instr.plainWrite 0 2 (some [])).wellFormed = false := by decide

theorem test_card_and_converter_requests_well_formed :
    (Instr.cardSetup 0 256 0 0).wellFormed = false ∧ (Instr.cardSetup 0 0 65536 0).wellFormed = false ∧
    (Instr.cardSetup 0 0 0 65536).wellFormed = false ∧ (Instr.cardRead 0 none).wellFormed = true ∧
    (Instr.cardRead 0 (some ⟨4294967296, 1⟩)).wellFormed = false ∧
    (Instr.cardRead 0 (some ⟨0, 256⟩)).wellFormed = false ∧ (Instr.currentRate 0 65536).wellFormed = false ∧
    (Instr.scanList 0 (List.replicate 64 ⟨none, 0, 0⟩)).wellFormed = false ∧
    (Instr.scanList 0 [⟨none, 65536, 0⟩]).wellFormed = false ∧ (Instr.scanList 0 [⟨none, 0, 256⟩]).wellFormed = false ∧
    (Instr.counterSet 0 ⟨65536, 0, 0, 0⟩).wellFormed = false ∧
    (Instr.counterSet 0 ⟨0, 4294967296, 0, 0⟩).wellFormed = false ∧
    (Instr.counterSet 0 ⟨0, 0, 65536, 0⟩).wellFormed = false ∧
    (Instr.counterSet 0 ⟨0, 0, 0, 65536⟩).wellFormed = false := by decide

/-- The POR settings of the protection unit, as arguments. -/
def protectArgs : ProtectArgs := ⟨12000, 4, 5000, 20, 3000, 20, 4300, 1000, 3000, 4000, some true⟩

theorem test_protect_and_charge_setups_well_formed :
    (Instr.protectSetup 0 protectArgs).wellFormed = true ∧
    (Instr.protectSetup 0 { protectArgs with scMa := 65536 }).wellFormed = false ∧
    (Instr.protectSetup 0 { protectArgs with scSteps := 256 }).wellFormed = false ∧
    (Instr.protectSetup 0 { protectArgs with docMa := 65536 }).wellFormed = false ∧
    (Instr.protectSetup 0 { protectArgs with docMs := 256 }).wellFormed = false ∧
    (Instr.protectSetup 0 { protectArgs with cocMa := 65536 }).wellFormed = false ∧
    (Instr.protectSetup 0 { protectArgs with cocMs := 256 }).wellFormed = false ∧
    (Instr.protectSetup 0 { protectArgs with covMv := 65536 }).wellFormed = false ∧
    (Instr.protectSetup 0 { protectArgs with covMs := 65536 }).wellFormed = false ∧
    (Instr.protectSetup 0 { protectArgs with duvMv := 65536 }).wellFormed = false ∧
    (Instr.protectSetup 0 { protectArgs with duvMs := 65536 }).wellFormed = false ∧
    (Instr.chargeSetup 0 defaultChargeSettings).wellFormed = true ∧
    (Instr.chargeSetup 0 { defaultChargeSettings with icc := 65536 }).wellFormed = false ∧
    (Instr.chargeSetup 0 { defaultChargeSettings with vcv := 65536 }).wellFormed = false ∧
    (Instr.chargeSetup 0 { defaultChargeSettings with iterm := 65536 }).wellFormed = false ∧
    (Instr.chargeSetup 0 { defaultChargeSettings with prechargeMv := 65536 }).wellFormed = false ∧
    (Instr.chargeSetup 0 { defaultChargeSettings with prechargeMin := 256 }).wellFormed = false ∧
    (Instr.chargeSetup 0 { defaultChargeSettings with fastMin := 65536 }).wellFormed = false ∧
    (Instr.chargeSetup 0 { defaultChargeSettings with vfloor := 65536 }).wellFormed = false := by decide

/-! ### The bytes of the link (12) -/

/-- The check values that the parameters of R169 give for the nine digits. -/
theorem test_checks :
    check16 [0x31, 0x32, 0x33, 0x34, 0x35, 0x36, 0x37, 0x38, 0x39] = 0x29B1#16 ∧
    check32 [0x31, 0x32, 0x33, 0x34, 0x35, 0x36, 0x37, 0x38, 0x39] = 0x0376E6E7#32 := by decide +kernel

/-- No row of the table has bits, so no word spells a command. -/
theorem test_no_word_spells_a_command : decodeTableWord 8 0 = none ∧ decodeTableWord 64 0xFFFF = none := by decide

/-- A CONTROL packet as R169 and 12 section 12.1 lay it out: the header and its check, the payload and its check. -/
def controlPacket (tag : Byte) (payload : List Byte) : List Byte :=
  let header : List Byte := [1, tag, BitVec.ofNat 8 payload.length, 0, 0, 0, 0, 0]
  header ++ leBytes 2 (check16 header).toNat ++ payload ++ leBytes 4 (check32 payload).toNat

/-- Request kinds 24 and 14 with tag 7: IDENTIFY, and CARD SETUP with 5, 500 (0x01F4) and 1000 (0x03E8); a kind of 27
and a wrong argument length (R169, R170). -/
theorem test_control_packets :
    packetCommand (controlPacket 7 [24]) = .identify 7 ∧
    packetCommand (controlPacket 7 [14, 5, 0xF4, 0x01, 0xE8, 0x03]) = .cardSetup 7 5 500 1000 ∧
    packetCommand (controlPacket 7 [27]) = .unknownRequest 7 (some 27) ∧
    packetCommand (controlPacket 7 []) = .unknownRequest 7 none ∧
    packetCommand (controlPacket 7 [14, 5]) = .unknownRequest 7 (some 14) ∧
    packetCommand [1, 7, 1, 0, 0, 0, 0, 0, 0, 0, 24, 0, 0, 0, 0] = .headerError ∧
    packetCommand [1, 7, 1] = .headerError := by decide +kernel

/-! ### Worked figures -/

/-- The part out of reset, with everything else as reset leaves it. -/
def up : State := { State.reset with mon.energy.resetEnd := none }

/-- The state after a command. -/
def after (c : Instr) (s : State) : State :=
  match exec c s with
  | .next t => t
  | _ => s

/-- 02, the worked increment and its mirror. -/
theorem test_increment :
    increment 1220 17044 1000 0 = (1299, 9680000) ∧ increment 1220 17044 1000 9680000 = (1300, 3360000) ∧
    increment (-1220) 17044 1000 0 = (-1300, 6320000) := by decide

/-- 02, leak and update, and the three rows of easing and the limit clamp. -/
theorem test_leak_and_easing :
    integrateAxis 17044 268 200000 1220 1000 8000 0 = (9292, 9680000, false) ∧
    (integrateAxis 17044 268 200000 1220 1000 (-8000) 0).1 = -6694 ∧
    integrateAxis 17044 268 40000 1220 1000 30000 0 = (31270, 9680000, false) ∧
    integrateAxis 17044 268 40000 1220 1000 32000 0 = (33172, 9680000, false) ∧
    integrateAxis 17044 268 40000 1220 1000 39900 0 = (40000, 9680000, true) := by decide

/-- 02, the worked lens mappings: 10,500 gives +16, −4600 gives −7, and 70,000 lies beyond the table's end. -/
theorem test_lens :
    lens.displacement 10500 = 16 ∧ lens.displacement (-4600) = -7 ∧ lens.displacement 70000 = 90 := by decide

/-- R47: a line cut where it reaches the window, and one that ends inside it. -/
theorem test_cut_line :
    cutLine 8 4 2 [10, 11, 12, 13, 14, 15, 16, 17] = ([12, 13, 14, 15], false) ∧
    cutLine 8 4 2 [10, 11, 12, 13] = ([12, 13, 13, 13], true) ∧ cutLine 8 4 2 [] = ([0, 0, 0, 0], true) := by decide

/-- 07 section 7.7: a discharge of 1500 mA at a period of 1 ms, row by row. -/
theorem test_coulomb_counter :
    let c : Converter := { Converter.afterPor with charge := 1000000 }
    ((c.count (-1500)).charge, (c.count (-1500)).remainder) = (999999, 2100000) ∧
    (((c.count (-1500)).count (-1500)).charge, ((c.count (-1500)).count (-1500)).remainder) = (999999, 600000) ∧
    ((((c.count (-1500)).count (-1500)).count (-1500)).charge,
      (((c.count (-1500)).count (-1500)).count (-1500)).remainder) = (999998, 2700000) := by decide

/-- 08 section 8.7: the third trip within 10 s latches lockout and empties the list. -/
theorem test_third_trip_locks_out :
    let p := ({ Protection.afterPor with recentTrips := [10020, 12520] }).tripDischarge 15020
    p.lockout = true ∧ p.recentTrips = [] ∧ p.recoveryArmed = false ∧ p.dischargeHoldoff = some 16020 := by decide

/-- A frame record is 64 bytes, a summary 512, the STATUS READ data 60 (12, R170). -/
theorem test_record_and_summary_lengths :
    FrameRecord.padding.bytes.length = 64 ∧ Slot.freed.summary.bytes.length = 512 ∧
    up.counters.bytes.length = 60 := by decide +kernel

/-- A reset path domain takes no request; one out of reset answers IDENTIFY (R166, R168). -/
theorem test_identify :
    (after (.identify 7) State.reset).path.link.replies = [] ∧
    (after (.identify 7) up).path.link.replies = [⟨7, .ok, .identity 43 460 3⟩] := by decide

/-- The path reset ends with PATH READY alone in the notice queue, and 2 ms gone (R156). -/
theorem test_path_reset_end :
    (after .pathResetEnd State.reset).path.link.notices = [.pathReady .por [] .low .noInput] ∧
    (after .pathResetEnd State.reset).monNow = 2 := by decide +kernel

/-! ### States and operands that meet the hypotheses of the statements -/

/-- A slot in a state, with clip 1, track on, frames from 0, one video extent half filled and two track blocks. -/
def slotIn (state : SlotState) : Slot :=
  { Slot.freed with
    state := state, clip := 1, track := true, lowWater := 2, startFrame := some 0, nextTrack := some 0
    video := [⟨10, 4⟩], videoCursor := ⟨0, some 12⟩, trackList := [⟨20, 2⟩], trackCursor := ⟨0, some 21⟩ }

/-- The part with slot 0 as given. -/
def withSlot (sl : Slot) : State := up.onSlot 0 fun _ => sl

/-- An empty block. -/
def block : Block := Vector.replicate 512 0

/-- A PLAIN entry of one block at block 5. -/
def plainEntry : Entry := ⟨0, .plain, 5, 1, .blocks [block]⟩

/-- The part with a READY card of 100 blocks. -/
def ready : State := { up with path.card.state := .ready, path.card.capacity := some 100 }

/-- The part with an active geometry, tables in both directions and the pixel path IN_FRAME. -/
def steady : State :=
  { up with
    path.window.geometry := some geo, path.window.path := .inFrame, path.engine.lensH := some lens
    path.engine.lensV := some lens }

theorem witness_takes : up.Takes ∧ ({ up with path.link.outstanding := 7 } : State).Takes :=
  ⟨⟨by decide, by decide⟩, by decide, by decide⟩

theorem witness_step_runs_front_command :
    ({ up with pending := [.dataReadyEdge, .frameEndUnit] } : State).pending = [.dataReadyEdge, .frameEndUnit] := rfl

/-- The part with nothing ready for the lane. -/
def quiet : State := { up with path.link.creditPending := false }

theorem witness_time_passes :
    quiet.pending = [] ∧ quiet.due = none ∧ up.due = none ∧
    ({ quiet with path.intake.integrationDue := true } : State).due = some .sampleIntegration ∧
    up.pathUp = true ∧ State.reset.pathUp = false ∧ before up.now 1 = true ∧ before up.now 2147483647 = true ∧
    up.mon.conv.subMs < 1000 ∧ before up.monNow 1 = true ∧ before up.monNow 2147483647 = true ∧
    (Instr.imuSilent, none) ∈ up.timers := by decide +kernel

theorem witness_path_reset_end :
    State.reset.mon.energy.resetEnd = some 2 ∧ State.reset.path = Path.afterReset ∧
    State.reset.nothingEarlier (State.reset.monLeft 2) = true := ⟨rfl, rfl, by decide +kernel⟩

theorem witness_path_reset_request :
    up.Takes ∧ (withSlot (slotIn .armed)).Takes ∧ ((withSlot (slotIn .armed)).slot 0).state ≠ .free ∧
    ({ ready with path.card.queue := [plainEntry] } : State).path.card.queue ≠ [] ∧
    (∀ i, (up.slot i).state = .free) ∧ up.path.card.queue = [] :=
  ⟨⟨by decide, by decide⟩, ⟨by decide, by decide⟩, by decide, List.cons_ne_nil _ _, by decide, rfl⟩

theorem witness_requests_and_notices_beyond_limits :
    (Instr.cardRead 3 none).tag? = some 3 ∧ (Instr.identify 3).tag? = some 3 ∧ State.reset.pathUp = false ∧
    up.pathUp = true ∧ 8 ≤ ({ up with path.link.outstanding := 8 } : State).path.link.outstanding ∧
    ({ up with path.link.notices := List.replicate 15 (.linkError 0 0) } : State).path.link.notices.length < 16 ∧
    16 ≤ ({ up with path.link.notices := List.replicate 16 (.linkError 0 0) } : State).path.link.notices.length := by
  decide

/-- The quiet part with a unit being sent. -/
def sending (u : LaneUnit) : State := { quiet with path.link.lane := some u }

/-- The summary of the monitor domain that ENERGY READ answers with, at reset. -/
def energyReply : Reply := ⟨3, .ok, .energy up.energySnapshot⟩

theorem witness_units_end :
    up.pathUp = true ∧ up.path.link.lane = none ∧ (sending (.frame (.line 0 []))).path.link.lane = some (.frame (.line 0 [])) ∧
    (sending (.credit 3)).path.link.lane = some (.credit 3) ∧
    (sending (.notice (.linkError 0 0) 2)).path.link.lane = some (.notice (.linkError 0 0) 2) ∧
    (sending (.reply energyReply 0 false)).path.link.lane = some (.reply energyReply 0 false) ∧
    energyReply.parts = 2 ∧ Reply.parts ⟨0, .ok, .none⟩ = 1 ∧ ((0 : Nat) + 1 < 2 ∧ 2 ≤ (1 : Nat) + 1 ∧ 1 ≤ (0 : Nat) + 1) ∧
    (sending (.readData 9 0 6 [])).path.link.lane = some (.readData 9 0 6 []) :=
  ⟨by decide, rfl, rfl, rfl, rfl, rfl, rfl, rfl, by decide, rfl⟩

/-- With nothing ready; with one class ready, before and after the class pointer; and with two cells gone. -/
theorem witness_choices :
    quiet.path.link.lane = none ∧ quiet.path.link.stream = [] ∧ quiet.cellDue = none ∧ up.cellDue = some .credit ∧
    ({ up with path.link.notices := [.linkError 0 0] } : State).cellDue = some .credit ∧
    ({ quiet with path.link.notices := [.linkError 0 0] } : State).cellDue = some .notice ∧
    ({ quiet with path.link.replies := [⟨0, .ok, .none⟩], path.link.pointer := .readData } : State).cellDue = some .reply ∧
    ({ quiet with path.card.readBuffer := .sending 9 [block] 7 } : State).cellDue = some .readData ∧
    ({ quiet with path.card.readBuffer := .sending 9 [block] 8 } : State).cellDue = none ∧
    up.path.link.cellsWhileFrame < 2 ∧ 2 ≤ ({ quiet with path.link.cellsWhileFrame := 2 } : State).path.link.cellsWhileFrame := by
  decide +kernel

/-- A class of an order before which nothing is ready: NOTICE, from the pointer at CREDIT with no credit pending. -/
theorem witness_first_class :
    ∃ before after, ([.credit, .notice, .reply, .readData] : List CellClass) = before ++ .notice :: after ∧
      (∀ d ∈ before, ({ quiet with path.link.notices := [.linkError 0 0] } : State).classReady d = false) ∧
      ({ quiet with path.link.notices := [.linkError 0 0] } : State).classReady .notice = true :=
  ⟨[.credit], [.reply, .readData], rfl, by decide, by decide⟩

/-- The end of CREDIT 0 lets PATH READY follow it on the lane (R156, R164, R165). -/
theorem test_lane_after_path_reset :
    let t := after .pathResetEnd State.reset
    t.path.link.lane = some (.credit 0) ∧
    (after .upstreamUnitSent t).path.link.lane = some (.notice (.pathReady .por [] .low .noInput) 0) ∧
    (after .upstreamUnitSent (after .upstreamUnitSent t)).path.link.lane = none := by decide +kernel

/-- A free lane with no unit ready. -/
theorem witness_lane_settled : quiet.pathUp = true ∧ quiet.path.link.lane = none ∧ quiet.LaneSettled :=
  ⟨by decide, rfl, fun _ => ⟨rfl, by intro c; cases c <;> decide⟩⟩

/-- R165 on a free lane: a reply begins as it is offered, and UPSTREAM_UNIT_SENT is its end. -/
theorem test_reply_on_a_free_lane :
    let t := after (.identify 9) quiet
    let u := after .upstreamUnitSent t
    t.path.link.lane = some (.reply ⟨9, .ok, .identity 0x2B 460 3⟩ 0 true) ∧ u.path.link.lane = none ∧
    u.path.link.replies = [] ∧ u.path.link.outstanding = 0 ∧
    (after (.identify 8) t).path.link.lane = t.path.link.lane := by decide +kernel

/-- A hold-off not running, running for 1000 ms more, and past its end. -/
theorem witness_holdoff_left :
    up.mon.prot.dischargeHoldoff = none ∧ up.energySnapshot.dischargeLeft = 0 ∧
    (let s : State := { up with mon.prot.dischargeHoldoff := some 1000 }
    (1 ≤ (1000 - s.monNow).toNat ∧ (1000 - s.monNow).toNat ≤ 2147483647) ∧ s.energySnapshot.dischargeLeft = 1000) ∧
    (let s : State := { up with mon.prot.dischargeHoldoff := some 1000, mon.conv.time := 1001 }
    2147483648 ≤ ((1000 : Time) - s.monNow).toNat ∧ s.energySnapshot.dischargeLeft = 0) := by decide

theorem witness_unknown_codes :
    (27 : Byte).toNat > 26 ∧ (0 : Byte).toNat = 0 ∧ (1 : Byte).toNat = 1 ∧ (26 : Byte).toNat ≤ 26 := by decide

/-- The part in CC with the switches that go with it, a clip recording, one data block waiting to be written and a read
outstanding. -/
def busy : State :=
  { ready.onSlot 0 fun _ => slotIn .recording with
    mon.chg := { Charger.afterPor with state := .cc, inputPresent := true, setpoint := 1000 }
    mon.prot.switches := ⟨true, true, false, false, false⟩, mon.energy.retained := [⟨0, 1, false, 0⟩]
    path.card.queue := [plainEntry], path.card.nextSeq := 1
    path.card.reads := [⟨9, 30, 1, some 0, some 1000⟩]
    path.link.received := 1, path.link.outstanding := 1, path.link.lane := some (.credit 0) }

/-- Every law holds of the busy part, and every command takes it to a next state. -/
theorem witness_laws_hold_of_busy :
    busy.ProtectionLaw ∧ busy.PowerLaw ∧ busy.BufferLaw ∧ busy.ShakeLaw ∧ busy.WindowLaw ∧ busy.ClosingLaw ∧
    ∃ t, exec .dataReadyEdge busy = .next t := by
  refine ⟨⟨by decide, by decide, by decide, by decide, by decide⟩, ⟨by decide, by decide, ?_, by decide, by decide⟩,
    ⟨by decide, by decide, by decide⟩, ?_, ?_, ?_, ⟨_, rfl⟩⟩
  · intro h; exact absurd h (by decide)
  · exact ⟨⟨by decide, by decide, by decide, by decide⟩, ⟨by decide, by decide, by decide, by decide⟩,
      by decide, by decide, by decide, by decide⟩
  · exact ⟨fun f h => absurd h (by intro h; cases h), by decide⟩
  · unfold State.ClosingLaw Slot.ClosingLaw; decide

theorem witness_request_and_extent_laws_hold_of_busy : busy.RequestLaw ∧ busy.ExtentLaw := by
  refine ⟨⟨by decide, by decide, by decide, by decide, by decide, ?_⟩, by decide +kernel, ?_⟩
  · exact ⟨fun t h => absurd h (by intro h; cases h), fun _ _ _ h => absurd h (by intro h; cases h)⟩
  · intro e h _; rw [List.mem_singleton.mp h]; decide +kernel

theorem witness_slots_of_busy : ∀ i, busy.slot i = slotIn .recording ∨ busy.slot i = Slot.freed := by decide

theorem witness_record_clip_and_lane_laws_hold_of_busy : busy.RecordLaw ∧ busy.ClipLaw ∧ busy.LaneLaw := by
  refine ⟨⟨fun i => ⟨?_, ?_⟩, by decide, ?_, fun f h => by cases h⟩, ⟨by decide, by decide, by decide, ?_, by decide,
    fun i => ?_, by decide, by decide, by decide⟩, ⟨fun t h => (by cases h), fun _ _ _ h => by cases h⟩,
    fun _ h => (by cases h), trivial⟩
  · rcases witness_slots_of_busy i with h | h <;> rw [h]
    · refine ⟨fun x => (by cases x), fun _ _ => ⟨0, 0, rfl, rfl, .inr (.inr (by decide))⟩, fun b x hb => ?_⟩
      match b with
      | 0 => cases hb
      | 1 => cases hb
    · refine ⟨fun x => (by cases x), fun x => (by rcases x with x | x <;> cases x), fun b x hb => ?_⟩
      match b with
      | 0 => cases hb
      | 1 => cases hb
  · rcases witness_slots_of_busy i with h | h <;> rw [h] <;> unfold Slot.ClosingLaw <;> decide
  · intro g h; rcases h with h | h <;> cases h
  · intro e h i stream ho
    rw [List.mem_singleton.mp h] at ho
    cases ho
  · rcases witness_slots_of_busy i with h | h <;> rw [h] <;> refine ⟨by decide, fun x => (by cases x), fun b x hb => ?_⟩
    · match b with
      | 0 => cases hb
      | 1 => cases hb
    · match b with
      | 0 => cases hb
      | 1 => cases hb

theorem witness_switch_clauses :
    busy.mon.prot.switches.charge = true ∧
    (let t := after .scDelayExpiry { up with mon.prot.scLeft := some 200 }
    t.mon.prot.dischargeHoldoff.isSome = true ∧ t.mon.prot.dischargeTrip = true ∧
      t.mon.prot.switches.discharge = false) := by decide +kernel

/-- A clip starts, an attempt begins, and a read begins with nothing before it: the changes the statement speaks of. -/
theorem witness_what_no_command_does :
    ((after (.clipStart 1 0)
      { withSlot (slotIn .armed) with
        path.window.geometry := some geo, mon.energy.state := .battery }).slot 0).state = .recording ∧
    (after .transactionBegin { ready with path.card.queue := [plainEntry] }).path.card.transaction.map
      Transaction.phase = some .command ∧
    (after .transactionBegin { ready with path.card.reads := [⟨9, 30, 1, none, none⟩] }).path.card.transaction.map
      Transaction.work = some .read := by decide +kernel

/-! Motion intake, settings, steadying, frame window. -/

/-- The intake running, with a sample read at 7 in progress, out of reset. -/
def reading : State :=
  { up with
    path.intake.state := .running, path.intake.port := .sampleRead 7 0 .highFirst
    path.intake.reference := some 3, path.intake.silence := some 50000, path.intake.shockHold := some 30000 }

/-- Twelve bytes: every gyro value 0x7FFF, every accelerometer value 0x0100. -/
def bytes : Vector Byte 12 := #v[0x7F, 0xFF, 0x7F, 0xFF, 0x7F, 0xFF, 1, 0, 1, 0, 1, 0]

theorem witness_data_ready_edge :
    up.pathUp = true ∧ up.path.intake.state = .stopped ∧ reading.pathUp = true ∧
    reading.path.intake.state ≠ .stopped ∧ reading.path.intake.port ≠ .free := by decide

theorem witness_sample_is_taken_in :
    reading.path.intake.port = .sampleRead 7 0 .highFirst ∧ reading.path.intake.state = .running ∧
    ({ reading with path.intake.state := .silent } : State).path.intake.state ≠ .running := by decide

/-- R6, R8, R9, R12 on those bytes: raw 32767 is CLIPPED, the interval is 4, the peak 768. -/
theorem test_sample_taken_in :
    let t := after (.sampleReadComplete bytes) reading
    t.path.intake.lastSample = some ⟨7, some 4, ⟨32767, 32767, 32767⟩, 768⟩ ∧ t.path.intake.framePeak = 768 ∧
    t.path.engine.flags.clipped = true ∧ t.path.intake.port = .free := by decide +kernel

theorem witness_silence_and_shock_hold :
    reading.pathUp = true ∧ reading.path.intake.silence = some 50000 ∧
    ({ reading with path.intake.shockHold := none } : State).nothingEarlier
      (({ reading with path.intake.shockHold := none } : State).pathLeft 50000) = true ∧
    reading.path.intake.shockHold = some 30000 ∧ reading.nothingEarlier (reading.pathLeft 30000) = true := by
  decide +kernel

theorem witness_pass_through :
    up.Takes ∧ up.path.intake.state = .stopped ∧ up.path.intake.port = .free ∧ reading.Takes ∧
    reading.path.intake.state ≠ .stopped ∧
    ({ up with path.intake.port := .passWrite 1 127 [5] } : State).path.intake.port ≠ .free ∧
    ¬((128 : Nat) ≤ 127 ∧ 1 ≤ 1 ∧ 1 ≤ 8) ∧ ((127 : Nat) ≤ 127 ∧ 1 ≤ 8 ∧ 8 ≤ 8) ∧
    ({ up with path.intake.port := .passRead 1 0 1 } : State).path.intake.port = .passRead 1 0 1 ∧
    ([0xAA] : List Byte).length = 1 :=
  ⟨⟨by decide, by decide⟩, by decide, by decide, ⟨by decide, by decide⟩, by decide, by decide, by decide, by decide,
    rfl, rfl⟩

/-- A motion setup with its arguments at the ends of their ranges. -/
def motionEnds : MotionArgs :=
  { motionArgs with
    startAddress := 127, bias := ⟨-32768, 32767, 0⟩, threshold := 98304, holdMs := 255, rate := ⟨1, 65535, 16⟩
    leak := ⟨4095, 0, 1⟩, limit := ⟨1000, 2000000, 1001⟩ }

theorem witness_motion_setup :
    (motionEnds.enable = some true ∧ motionEnds.order = some .highFirst ∧
      motionEnds.axes = ⟨some .z, some .y, some .x⟩ ∧ motionEnds.signs = ⟨some .plus, some .plus, some .plus⟩) ∧
    (motionEnds.startAddress ≤ 127 ∧
      (∀ b ∈ [motionEnds.bias.yaw, motionEnds.bias.pitch, motionEnds.bias.roll], -32768 ≤ b ∧ b ≤ 32767) ∧
      motionEnds.threshold ≤ 98304 ∧ 1 ≤ motionEnds.holdMs ∧ motionEnds.holdMs ≤ 255 ∧
      (∀ k ∈ [motionEnds.rate.yaw, motionEnds.rate.pitch, motionEnds.rate.roll], 1 ≤ k ∧ k ≤ 65535) ∧
      (∀ k ∈ [motionEnds.leak.yaw, motionEnds.leak.pitch, motionEnds.leak.roll], k ≤ 4095) ∧
      ∀ k ∈ [motionEnds.limit.yaw, motionEnds.limit.pitch, motionEnds.limit.roll], 1000 ≤ k ∧ k ≤ 2000000) ∧
    ¬({ motionEnds with holdMs := 0 } : MotionArgs).holdMs ≥ 1 ∧
    none ∈ [some GyroAxis.z, none, some .x] ∧
    up.path.window.path = .idle ∧ steady.path.window.path ≠ .idle := by decide

/-- One step beyond each end is refused. -/
theorem test_motion_setup_ends :
    (checkMotion motionEnds).isSome = true ∧
    (∀ a ∈ [{ motionEnds with startAddress := 128 }, { motionEnds with threshold := 98305 },
      { motionEnds with holdMs := 256 }, { motionEnds with rate := ⟨1, 0, 1⟩ }, { motionEnds with leak := ⟨0, 0, 4096⟩ },
      { motionEnds with limit := ⟨999, 1000, 1000⟩ }, { motionEnds with limit := ⟨1000, 2000001, 1000⟩ },
      { motionEnds with bias := ⟨0, 0, -32769⟩ }, { motionEnds with axes := ⟨some .z, some .z, some .x⟩ }],
      checkMotion a = none) := by decide

theorem witness_lens_table_and_geometry :
    ((256 : Nat) ≤ 256 ∧ 256 ≤ (65535 : Nat) ∧ ∀ i : Fin 17, lens.entries[i] ≤ 65535) ∧ ¬(256 : Nat) ≤ 255 ∧
    (lens.entries[0] = 0 ∧ ∀ i : Fin 16, lens.entries[i.val] ≤ lens.entries[i.val + 1]) ∧
    ¬(Vector.replicate 17 65535 : Vector Nat 17)[0] = 0 ∧ checkGeometry ⟨64, 16, 64, 16, 16, 20⟩ = true ∧
    checkGeometry ⟨8192, 8192, 8192, 8192, 16, 2550⟩ = true ∧
    (∀ g ∈ [⟨62, 16, 62, 16, 1, 20⟩, { geo with w := 63 }, { geo with sensorH := 8194 }, { geo with bands := 0 },
      { geo with bands := 3 }, { geo with watchMs := 19 }, { geo with watchMs := 2551 }], checkGeometry g = false) ∧
    (∃ i, ((withSlot (slotIn .closing)).slot i).state = .recording ∨ ((withSlot (slotIn .closing)).slot i).state = .closing) ∧
    ¬∃ i, (up.slot i).state = .recording ∨ (up.slot i).state = .closing := by decide +kernel

theorem witness_swap :
    (up.path.window.pending.isNone = true ∧ up.path.intake.pending = none ∧ up.path.engine.pendingH = none ∧
      up.path.engine.pendingV = none) ∧
    ({ up with path.window.pending := some geo } : State).clipBusy = false ∧
    ({ up with path.intake.pending := some MotionSetup.afterReset } : State).path.intake.pending =
      some MotionSetup.afterReset := by decide +kernel

/-- The swap takes a pending geometry while no clip is open, and holds it back while one is (R41). -/
theorem test_swap_and_open_clip :
    ({ up with path.window.pending := some geo } : State).swap.path.window.geometry = some geo ∧
    ({ withSlot (slotIn .recording) with path.window.pending := some geo } : State).swap.path.window.geometry = none := by
  decide

theorem witness_increment_ranges :
    (-32767 : Int) ≤ 32767 ∧ runIncrements 65535 [(32767, 4000), (-32767, 1)] 0 = (536712, 1994655) := by decide

theorem witness_sample_is_integrated :
    let s : State :=
      { up with path.intake.integrationDue := true, path.intake.lastSample := some ⟨7, some 4, ⟨1, 2, 3⟩, 0⟩ }
    s.pathUp = true ∧ s.path.intake.integrationDue = true ∧
    s.path.intake.lastSample = some ⟨7, some 4, ⟨1, 2, 3⟩, 0⟩ ∧ up.path.intake.integrationDue = false := by decide

/-- An entry of 65536 is BAD_ARG, of 65535 TABLE_ORDER where the table then falls (log 18). -/
theorem test_lens_entry_ends :
    (after (.lensTable 9 (some .h) 4000 (lens.entries.set 1 65536)) up).path.link.replies = [⟨9, .badArg, .none⟩] ∧
    (after (.lensTable 9 (some .h) 4000 (lens.entries.set 1 65535)) up).path.link.replies =
      [⟨9, .tableOrder, .none⟩] := by decide +kernel

theorem witness_lens_mapping :
    0 < lens.spacing ∧ nonDecreasing lens.entries.toList = true ∧ 16 * lens.spacing ≤ 64000 ∧ 3999 < lens.spacing ∧
    (∀ n ∈ lens.entries.toList, n ≤ 65535) := by decide

theorem witness_steady_mode :
    up.Takes ∧ up.path.window.geometry = none ∧ up.path.window.path = .idle ∧ steady.Takes ∧
    steady.path.window.geometry.isSome = true ∧ steady.path.engine.lensH.isSome = true ∧
    steady.path.engine.lensV.isSome = true ∧ steady.path.window.path ≠ .idle ∧
    ({ steady with path.window.path := .idle } : State).path.window.path = .idle :=
  ⟨⟨by decide, by decide⟩, by decide, by decide, ⟨by decide, by decide⟩, by decide, by decide, by decide, by decide,
    by decide⟩

theorem witness_frame_start_engine :
    (up.path.engine.frameStart geo true).mode = .off ∧
    ({ steady.path.engine with modeRequest := some .on }.frameStart geo false).mode = .on := by decide

/-- In ON mode the window moves against the shake (R26): 02's lens gives +16 for 10,500, from a margin of 32. -/
theorem test_column :
    ({ steady.path.engine with mode := .on, shake := ⟨10500, 0, 0⟩ }.column geo) = (16, false) ∧
    ({ steady.path.engine with mode := .on, shake := ⟨70000, 0, 0⟩ }.column geo) = (0, true) := by decide +kernel

/-- The part IDLE with a geometry, tables and nothing pending. -/
def idle : State := { steady with path.window.path := .idle }

/-- The intake running with a last sample 4000 and 4001 µs old, and one without (R29). -/
theorem witness_stale :
    let s := { reading with path.intake.lastSample := some ⟨0, none, ⟨0, 0, 0⟩, 0⟩ }
    s.path.intake.stale 4000 = false ∧ s.path.intake.stale 4001 = true ∧ reading.path.intake.stale 0 = true ∧
    up.path.intake.stale 0 = true := by decide

theorem witness_frame_start_unit :
    up.pathUp = true ∧ up.path.window.geometry = none ∧ up.swap.path.window.geometry = none ∧ idle.pathUp = true ∧
    idle.closeShort.swap.path.window.geometry = some geo ∧
    (let s : State := { up with path.window.pending := some geo }
    s.path.window.geometry = none ∧ s.swap.path.window.geometry ≠ none ∧
      s.swap.closeShort.swap.path.window.geometry = some geo) := by decide +kernel

/-- The open frame that a frame start gives, with a number of rows received. -/
def frameWith (rows : Nat) : OpenFrame :=
  { number := 0, start := 0, geometry := geo, x0 := 32, y0 := 16, bands := Vector.replicate 16 32, rows := rows, lines := 0,
    shortLine := false, shake := ⟨0, 0, 0⟩ }

/-- The part in a frame with a number of rows received. -/
def inFrame (rows : Nat) : State := { steady with path.window.frame := some (frameWith rows), path.window.watch := some 50000 }

theorem witness_line_unit :
    (inFrame 15).pathUp = true ∧ (inFrame 15).path.window.path = .inFrame ∧
    (inFrame 15).path.window.frame = some (frameWith 15) ∧ (inFrame 15).path.window.geometry = some geo ∧
    (frameWith 15).rows < (frameWith 15).y0 ∧ (frameWith 48).y0 + geo.h ≤ (frameWith 48).rows ∧
    (frameWith 16).y0 ≤ (frameWith 16).rows ∧ (frameWith 47).rows < (frameWith 47).y0 + geo.h ∧
    linesHeld (inFrame 16).path.link.stream < 4 ∧
    4 ≤ linesHeld ({ inFrame 16 with path.link.stream := List.replicate 4 (.line 0 []) } : State).path.link.stream ∧
    idle.path.window.discardMarker = false ∧
    ({ idle with path.window.discardMarker := true } : State).path.window.path = .idle ∧
    ({ idle with path.window.path := .between } : State).path.window.path = .between := by decide +kernel

/-- The two bands of the geometry are 16 rows high: from origin row 16, row 32 of the sensor begins band 1, row 33 does not
(R27). -/
theorem witness_band_start :
    (32 - (frameWith 32).y0) % (geo.h / geo.bands) = 0 ∧ 1 ≤ (32 - (frameWith 32).y0) / (geo.h / geo.bands) ∧
    ¬(33 - (frameWith 33).y0) % (geo.h / geo.bands) = 0 := by decide

theorem witness_frame_end_and_stall :
    (inFrame 20).pathUp = true ∧ (inFrame 20).path.window.path = .inFrame ∧
    (inFrame 20).path.window.frame = some (frameWith 20) ∧ (inFrame 20).path.window.geometry = some geo ∧
    (inFrame 20).path.window.watch = some 50000 ∧
    (inFrame 20).nothingEarlier ((inFrame 20).pathLeft 50000) = true := by decide +kernel

/-- A real record of frame 0. -/
def record : FrameRecord := { FrameRecord.padding with bandCount := 2 }

/-- A recording slot without track, and with its track buffers as given. -/
def taking (track : Bool) (b0 b1 : TrackBuffer) : State :=
  withSlot { slotIn .recording with track := track, buffers := #v[b0, b1] }

/-- The records of R98 and R99: taken without track, into an empty, a filling and a full buffer with a block left and with
none, and lost with both buffers queued; and not taken by a slot whose clip has not begun. -/
theorem witness_record_offered :
    (let s := taking true (.filling (List.replicate 6 record)) .free
    (s.slot 0).startFrame = some 0 ∧ (record.number - 0).toNat < 2147483648 ∧ (s.slot 0).stopFrame = none ∧
      (s.slot 0).filling = some (0, List.replicate 6 record)) ∧
    (List.replicate 6 record).length ≠ 7 ∧ (List.replicate 7 record).length = 7 ∧
    (slotIn .recording).trackCursor.next = some 21 ∧ (slotIn .recording).trackList[0]? = some ⟨20, 2⟩ ∧
    ((taking true .free .free).slot 0).filling = none ∧ ((taking false .free .free).slot 0).track = false ∧
    ((taking true (.queuedTrack [record]) .free).slot 0).buffers[0] ≠ .free ∧
    ((taking true (.queuedTrack [record]) (.queuedTrack [record])).slot 0).buffers[1] ≠ .free ∧
    (up.slot 0).state ≠ .recording ∧ ¬((record.number - 1).toNat < 2147483648) := by decide +kernel

/-- The eighth record queues the buffer at the last track block, and the next finds none left (R99). -/
theorem test_track_buffer_queued :
    let t := (taking true (.filling (List.replicate 7 record)) .free).takeRecord record
    t.path.card.queue = [⟨0, .slot 0 .track, 21, 1, .buffer 0⟩] ∧ (t.slot 0).trackCursor.next = none ∧
    (t.slot 0).nextTrack = some 1 ∧ (t.slot 0).firstStamp = some 0 ∧
    (((taking true (.queuedTrack [record]) (.queuedTrack [record])).takeRecord record).slot 0).recordsLost = 1 := by
  decide +kernel

/-- A closing slot that still owes frames up to its stop frame. -/
def owing (stop : FrameNo) : Slot := { slotIn .closing with step := .owed, stopFrame := some stop }

/-- R103: a stop frame after the counter is cut to it, and with nothing left owed step 1 is done; one at it stays. -/
theorem test_cut_owed :
    (owing 5).cutOwed 3 = owing 3 ∧ (owing 3).cutOwed 3 = owing 3 ∧
    (owing 5).cutOwed 0 = { owing 0 with step := .pad } := by decide

/-- A stall closes the frame short and empties the place of the open frame (R49, R53). -/
theorem test_sensor_stall :
    let t := after .sensorStall (inFrame 20)
    t.path.window.path = .idle ∧ t.path.window.frame = none ∧ t.path.window.shortFrames = 1 ∧
    t.path.window.stalls = 1 := by decide +kernel

/-- A sample taken in while IDLE counts for the next frame that starts, also past a discarded frame; one taken in during
BETWEEN does not (R12, R39, R42, log 35). -/
theorem test_peak_from_idle :
    let taken (s : State) := after (.sampleReadComplete bytes) { s with path.intake := reading.path.intake }
    let discarded := after .frameStartUnit (taken up)
    (after .frameStartUnit (taken idle)).path.intake.framePeak = 768 ∧
    (after .frameStartUnit (taken { idle with path.window.path := .between })).path.intake.framePeak = 0 ∧
    discarded.path.intake.framePeak = 768 ∧ discarded.path.intake.idlePeak = 768 ∧
    (after .frameStartUnit { discarded with path.window.geometry := some geo }).path.intake.framePeak = 768 ∧
    (after .frameStartUnit (after .frameStartUnit (taken idle))).path.intake.framePeak = 0 := by decide +kernel

/-- R170 with log 19: INPUT_PRESENT has its number of R135, REMOVED and DONE those of R77, FAILED that of the card states, COV
that of the conditions. -/
theorem test_first_listed_names :
    ChargerCause.nameNumber .inputPresent = 1 ∧ ChargerCause.nameNumber .inputAbsent = 1 ∧
    ChargerCause.nameNumber .fastTimer = 12 ∧ EnergyCause.nameNumber .inputPresent = 1 ∧
    EnergyCause.nameNumber .inputAbsent = 1 ∧ EnergyCause.nameNumber .levels = 6 ∧
    ChargerState.nameNumber .done = 0 ∧ ChargerState.nameNumber .hold = 7 ∧
    HoldCauses.toNat ⟨true, true, false, false⟩ = 3 ∧ HoldCauses.toNat ⟨false, false, true, false⟩ = 8 ∧
    HoldCauses.toNat ⟨false, false, true, true⟩ = 8 ∧ LossCause.nameNumber .failed = 3 ∧
    LossCause.nameNumber .removed = 2 ∧ CardCause.nameNumber .removed = 2 ∧
    CardCause.nameNumber .transactions = 4 := by decide

/-! Clip slots, write queue, card, closing. -/

theorem witness_clip_drop :
    (withSlot (slotIn .armed)).Takes ∧ ((withSlot (slotIn .armed)).slot 0).state = .armed ∧
    ((withSlot (slotIn .armed)).slot 3).state ≠ .armed := ⟨⟨by decide, by decide⟩, by decide, by decide⟩

theorem witness_clip_arm :
    up.Takes ∧ (up.slot 3).state = .free ∧ (none.getD 256 : Nat) ≤ 65535 ∧ ((65535 : Nat) ≤ 65535) ∧
    ((withSlot (slotIn .armed)).slot 0).state ≠ .free ∧ ((withSlot (slotIn .armed)).slot 0).clip = 1 ∧
    ((withSlot (slotIn .armed)).slot 1).state = .free ∧ (withSlot (slotIn .armed)).Takes :=
  ⟨⟨by decide, by decide⟩, by decide, by decide, by decide, by decide, by decide, by decide, by decide, by decide⟩

theorem witness_clip_start :
    let s := withSlot (slotIn .armed)
    let t : State := { s with path.window.geometry := some geo, mon.energy.state := .battery }
    s.Takes ∧ (s.slot 0).state = .armed ∧ (s.slot 0).video ≠ [] ∧ (s.slot 0).trackList ≠ [] ∧
    ((s.slot 0).track = true ∧ s.path.window.geometry = none) ∧ s.path.card.state ≠ .starting ∧ t.Takes ∧
    t.path.window.geometry ≠ none ∧ t.mon.energy.state ≠ .low ∧ t.mon.energy.state ≠ .critical ∧
    ({ t with mon.energy.state := .critical } : State).mon.energy.state = .critical ∧
    ((withSlot { slotIn .armed with video := [] }).slot 0).video = [] :=
  ⟨⟨by decide, by decide⟩, by decide, by decide, by decide, by decide, by decide, ⟨by decide, by decide⟩, by decide,
    by decide, by decide, by decide, by decide⟩

/-- A slot with one video block left below its low-water of 2 says SPACE LOW when it starts (R68). -/
theorem test_space_low_at_start :
    (after (.clipStart 1 0)
      { withSlot { slotIn .armed with spaceLowArmed := true, videoCursor := ⟨0, some 13⟩ } with
        path.window.geometry := some geo, mon.energy.state := .battery }).path.link.notices = [.spaceLow 0 1 1 2] := by
  decide +kernel

/-- The READY card with slot 0 recording. -/
def recording : State := { ready.onSlot 0 fun _ => slotIn .recording with path.card.queue := [plainEntry], path.card.nextSeq := 1 }

theorem witness_extent_add :
    recording.Takes ∧ (recording.slot 0).state = .recording ∧ recording.path.card.state = .ready ∧
    recording.path.card.capacity = some 100 ∧ (99 + 1 ≤ (100 : Nat)) ∧ ((100 : Nat) < 99 + 2) ∧
    recording.heldExtents = [⟨10, 4⟩, ⟨20, 2⟩] ∧ (recording.slot 0).video.length < 16 ∧
    2 ≤ (withSlot { slotIn .armed with trackList := [⟨20, 2⟩, ⟨30, 1⟩] }).path.slots[0].trackList.length ∧
    (recording.slot 0).trackList.length < 2 ∧ (withSlot { slotIn .armed with trackList := [] }).path.slots[0].trackList = [] ∧
    up.path.card.state = .absent ∧ (up.slot 0).state ≠ .armed :=
  ⟨⟨by decide, by decide⟩, by decide, by decide, by decide, by decide, by decide, by decide, by decide, by decide, by decide,
    by decide, by decide, by decide⟩

/-- No extent and no PLAIN entry touches the last block of the card. -/
theorem witness_extent_add_free_place :
    (¬∃ x ∈ recording.heldExtents, 99 < x.start + x.length ∧ x.start < 99 + 1) ∧
    ((∃ x ∈ recording.heldExtents, 13 < x.start + x.length ∧ x.start < 13 + 1)) := by decide

theorem witness_clip_stop :
    let s := withSlot (slotIn .recording)
    s.Takes ∧ (s.slot 0).state = .recording ∧ (s.slot 0).startFrame = some 0 ∧
    ((1023 : FrameNo) + 1 - 0).toNat ≤ (s.path.window.frameCounter - 0).toNat + 1024 ∧
    (s.path.window.frameCounter - 0).toNat + 1024 < ((1024 : FrameNo) + 1 - 0).toNat ∧
    (slotIn .recording).nextTrack = some 0 ∧ (up.slot 0).state ≠ .recording :=
  ⟨⟨by decide, by decide⟩, by decide, by decide, by decide, by decide, by decide, by decide⟩

theorem witness_clip_data :
    recording.pathUp = true ∧ (recording.slot 0).state = .recording ∧ (recording.slot 0).remaining = 2 ∧
    [block, block].length = 2 ∧ 128 - heldBlocks recording.path.card.queue = 127 ∧
    ((recording.slot 0).lay [block, block]).1.length = 1 ∧ (up.slot 0).state ≠ .recording ∧
    min (56 - (recording.path.card.queue.filter Entry.fromPacket).length) (64 - recording.path.card.queue.length) = 55 ∧
    (let full : State := { recording with path.card.queue := List.replicate 8 { plainEntry with count := 16 } }
    128 - heldBlocks full.path.card.queue < 1) ∧
    (let many : State := { recording with path.card.queue := List.replicate 56 plainEntry }
    2 ≤ 128 - heldBlocks many.path.card.queue ∧
      min (56 - (many.path.card.queue.filter Entry.fromPacket).length) (64 - many.path.card.queue.length) = 0) := by
  decide +kernel

/-- The cursor of the recording slot stands in its extent, with room for two blocks (R65, R67). -/
theorem witness_lay :
    (slotIn .recording).videoCursor.next = some 12 ∧ (slotIn .recording).video[0]? = some ⟨10, 4⟩ ∧
    (10 : Nat) ≤ 12 ∧ 12 < 10 + 4 ∧ (∀ x ∈ (slotIn .recording).video, 1 ≤ x.length) ∧
    1 ≤ [block, block].length ∧ [block, block].length ≤ (slotIn .recording).remaining := by decide

/-- Six blocks over three extents: the rest of the first, the whole of the second, one block of the third, with the cursor
after it; and two blocks that fill an extent leave the cursor at the next one's first block (R67). -/
theorem test_lay_crosses_extents :
    let sl := { slotIn .recording with video := [⟨10, 4⟩, ⟨30, 3⟩, ⟨50, 5⟩] }
    ((sl.lay (List.replicate 6 block)).1.map fun p => (p.1, p.2.length)) = [(12, 2), (30, 3), (50, 1)] ∧
    (sl.lay (List.replicate 6 block)).2 = ⟨2, some 51⟩ ∧ (sl.lay (List.replicate 2 block)).2 = ⟨1, some 30⟩ := by
  decide +kernel

theorem witness_plain_write :
    recording.pathUp = true ∧ recording.path.card.state = .ready ∧ recording.path.card.capacity = some 100 ∧
    up.path.card.state ≠ .ready ∧ (99 + 1 ≤ (100 : Nat)) ∧ ((100 : Nat) < 85 + 16) ∧
    (∃ x ∈ recording.heldExtents, 13 < x.start + x.length ∧ x.start < 13 + 1) := by decide

theorem witness_card_detect :
    State.reset.pathUp = false ∧ up.pathUp = true ∧ up.path.card.state = .absent ∧ recording.pathUp = true ∧
    recording.path.card.state ≠ .absent ∧ recording.path.link.notices.length + 1 + 1 ≤ 16 ∧
    (slotIndices.filter fun i => decide ((recording.slot i).state ≠ .free)) = [0] := by decide

/-- A removal: CARD STATE, then CLIP LOST for the slot in use, its block released (R78, R90, R107). -/
theorem test_removal :
    let t := after .cardDetectFall recording
    t.path.card.state = .absent ∧ t.path.card.queue = [] ∧ t.path.link.released = 1 ∧ (t.slot 0).state = .free ∧
    t.path.link.notices.length = 2 := by decide +kernel

/-- The card in its start sequence. -/
def starting (step : StartStep) : State :=
  { up with
    path.card.state := .starting, path.card.startStep := step, path.card.startDeadline := some 1000000
    path.card.response := some 10000 }

theorem witness_card_starts :
    (let s : State := { up with path.card.debounce := some 50000 }
    s.pathUp = true ∧ s.path.card.debounce = some 50000 ∧ s.nothingEarlier (s.pathLeft 50000) = true) ∧
    (let s : State := { starting .poll with path.card.response := none }
    s.path.card.startDeadline = some 1000000 ∧ s.nothingEarlier (s.pathLeft 1000000) = true) ∧
    ((starting .poll).path.card.response = some 10000 ∧ (starting .poll).path.card.transaction = none ∧
      (starting .poll).nothingEarlier ((starting .poll).pathLeft 10000) = true) ∧
    (starting .resetCommand).path.card.state = .starting ∧ (starting .capacity).path.card.startStep = .capacity ∧
    (1 : Nat) ≤ 4294967296 ∧ up.path.card.state ≠ .starting := by decide +kernel

theorem witness_card_requests :
    up.Takes ∧ (starting .poll).Takes ∧ recording.Takes ∧ recording.path.card.queue ≠ [] ∧ ready.Takes ∧
    ready.path.card.queue = [] ∧ ready.path.card.reads = [] ∧ ((15 : Nat) ≤ 15 ∧ 100 ≤ 2000 ∧ 10 ≤ 2550) :=
  ⟨⟨by decide, by decide⟩, ⟨by decide, by decide⟩, ⟨by decide, by decide⟩, List.cons_ne_nil _ _, ⟨by decide, by decide⟩,
    rfl, rfl, by decide⟩

theorem witness_attempts_begin :
    recording.pathUp = true ∧ recording.path.card.state = .ready ∧ recording.path.card.transaction = none ∧
    recording.path.intake.shockHold = none ∧ recording.path.card.reads = [] ∧ recording.path.card.queue = [plainEntry] ∧
    (let s : State := { ready with path.card.reads := [⟨9, 30, 1, none, none⟩] }
    s.path.card.readBuffer = .free ∧ s.path.card.queue = []) ∧ up.path.card.state ≠ .ready ∧ plainEntry.count ≤ 64 :=
  ⟨by decide, by decide, rfl, by decide, rfl, rfl, ⟨rfl, rfl⟩, by decide, by decide⟩

/-- A transaction in a phase. -/
def transaction (work : Work) (phase : Phase) : Transaction := ⟨work, 5, 1, phase, 0, 0, false, 0, false⟩

/-- A write of the head of the queue in a phase, with its response deadline. -/
def writing (phase : Phase) : State :=
  { recording with path.card.transaction := some (transaction (.write 1) phase), path.card.response := some 10000 }

theorem witness_retry_begin :
    (writing .waitRetry).path.card.transaction = some (transaction (.write 1) .waitRetry) ∧
    (transaction (.write 1) .waitRetry).phase = .waitRetry ∧ (writing .waitRetry).path.intake.shockHold = none ∧
    (transaction (.write 1) .data).phase ≠ .waitRetry := by decide

theorem witness_write_attempt :
    (writing .command).pathUp = true ∧ (writing .command).path.card.transaction = some (transaction (.write 1) .command) ∧
    (transaction (.write 1) .busy).refused = false ∧ (transaction (.write 1) .data).count ≤ 0 + 1 ∧
    0 + 1 < ({ transaction (.write 2) .data with count := 2 } : Transaction).count := by decide

/-- The end of busy takes the entry out of the queue and releases its block (R77). -/
theorem test_busy_end :
    let t := after .busyEnd (writing .busy)
    t.path.card.queue = [] ∧ t.path.card.transaction = none ∧ t.path.link.released = 1 := by decide +kernel

theorem witness_failed_attempts :
    (writing .command).path.card.response = some 10000 ∧
    (writing .command).nothingEarlier ((writing .command).pathLeft 10000) = true ∧
    (let s : State := { writing .busy with path.card.response := none, path.card.busy := some 500000 }
    s.path.card.busy = some 500000 ∧ s.nothingEarlier (s.pathLeft 500000) = true) ∧
    ({ transaction (.write 1) .busy with refused := true } : Transaction).refused = true ∧
    ({ transaction (.write 1) .data with overlap := true, uncounted := 7 } : Transaction).uncounted < 8 ∧
    (transaction (.write 1) .data).counted < recording.path.card.retryLimit ∧
    recording.path.card.retryLimit ≤ ({ transaction (.write 1) .data with counted := 3 } : Transaction).counted ∧
    (transaction (.write 1) .data).overlap = false ∧
    (((recording.path.card.queue.take 1).map Entry.slot?).eraseDups).length + 0 ≤ 16 := by decide +kernel

/-- A read in its data phase with nothing received yet. -/
def readingCard : State :=
  { ready with
    path.card.transaction := some ⟨.read, 30, 2, .data, 0, 0, false, 0, false⟩
    path.card.reads := [⟨9, 30, 2, none, none⟩], path.card.readBuffer := .filling [] }

theorem witness_reads :
    ready.Takes ∧ ready.path.card.state = .ready ∧ ready.path.card.capacity = some 100 ∧ (92 + 8 ≤ (100 : Nat)) ∧
    ready.path.card.reads.length < 3 ∧ up.path.card.state ≠ .ready ∧
    readingCard.path.card.reads.find? (fun r => decide (r.start = 30 ∧ r.count = 2)) = some ⟨9, 30, 2, none, none⟩ ∧
    3 ≤ ({ ready with path.card.reads := List.replicate 3 ⟨9, 30, 2, none, none⟩ } : State).path.card.reads.length ∧
    readingCard.path.card.readBuffer = .filling [] ∧ ([] : List Block).length + 1 < 2 ∧ 2 ≤ [block].length + 1 :=
  ⟨⟨by decide, by decide⟩, by decide, by decide, by decide, by decide, by decide, by decide, by decide, rfl, by decide,
    by decide⟩

theorem witness_read_data_cells :
    ([block] : List Block)[0 / 8]? = some block ∧ ([block] : List Block)[7 / 8]? = some block ∧
    6 + 1 < 8 * [block].length ∧ 7 + 1 = 8 * [block].length := ⟨rfl, rfl, by decide, by decide⟩

/-- Two reads waiting: the second expires first. -/
theorem witness_read_wait_timeout :
    let s : State := { ready with path.card.reads := [⟨1, 30, 1, none, some 2000⟩, ⟨2, 40, 1, none, some 1000⟩] }
    s.pathUp = true ∧ s.path.card.reads = [⟨1, 30, 1, none, some 2000⟩] ++ ⟨2, 40, 1, none, some 1000⟩ :: [] ∧
    s.nothingEarlier (s.pathLeft 1000) = true ∧ s.pathLeft 1000 < s.pathLeft 2000 := by decide +kernel

/-- A slot in CLOSING at a step, with a buffer 0 as given. -/
def closing (step : ClosingStep) (buffer : TrackBuffer) : State :=
  withSlot { slotIn .closing with
    step := step, stopFrame := some 0, cause := some .stop, buffers := #v[buffer, .free] }

theorem witness_closing :
    (closing .pad .free).pathUp = true ∧ ((closing .pad .free).slot 0).state = .closing ∧
    ((closing .pad .free).slot 0).step = .pad ∧ ((closing .pad .free).slot 0).filling = none ∧
    ((closing .pad (.filling [FrameRecord.padding])).slot 0).filling = some (0, [FrameRecord.padding]) ∧
    ((closing .pad (.filling [FrameRecord.padding])).slot 0).trackCursor.next = some 21 ∧
    ((closing .drain .free).slot 0).step = .drain ∧ ((closing .drain .free).slot 0).buffers[0] = .free ∧
    ((closing .drain .free).slot 0).buffers[1] = .free ∧ ((closing .drain .free).slot 0).trackList = [⟨20, 2⟩] ∧
    (closing .drain .free).path.card.queue.length = 0 := by decide +kernel

/-- The summary waits while an entry of the slot is queued (R105). -/
theorem witness_entry_remains :
    let s := { closing .drain .free with path.card.queue := [⟨0, .slot 0 .video, 10, 1, .blocks [block]⟩] }
    (∃ e ∈ s.path.card.queue, e.slot? = some 0) ∧ (after (.summaryBuild 0) s).slot 0 = s.slot 0 ∧
    ((after (.summaryBuild 0) (closing .drain .free)).slot 0).step = .sealing := by decide +kernel

theorem witness_handbacks :
    let s : State := { closing .drain (.queuedTrack [FrameRecord.padding]) with path.card.handbacks := [⟨0, 0, .done⟩] }
    s.pathUp = true ∧ s.path.card.handbacks = [⟨0, 0, .done⟩] ∧ (s.slot 0).state ≠ .free ∧
    (s.slot 0).buffers[0] = .queuedTrack [FrameRecord.padding] ∧ (up.slot 0).state = .free ∧
    ((closing .sealing (.queuedSummary Slot.freed.summary)).slot 0).buffers[0] =
      .queuedSummary Slot.freed.summary := by decide +kernel

/-- The handback of a summary seals the clip and frees the slot (R106). -/
theorem test_seal :
    let t := after .bufferHandback
      { closing .sealing (.queuedSummary (slotIn .closing).summary) with path.card.handbacks := [⟨0, 0, .failed⟩] }
    (t.slot 0).state = .free ∧ t.path.link.notices = [.clipSealed 0 (slotIn .closing).summary true] := by decide +kernel

/-! Measurement, energy, protection, charging. -/

/-- The part with a result of each cell, mV. -/
def cells (s : State) (v1 v2 : Int) : State :=
  { s with mon.conv.histories := { s.mon.conv.histories with cell1 := [⟨v1, 0⟩], cell2 := [⟨v2, 0⟩] } }

/-- The charger in a state with the input present. -/
def charging (state : ChargerState) : State :=
  { up with mon.chg.state := state, mon.chg.inputPresent := true, mon.conv.settling := 0 }

theorem witness_current_results :
    0 < up.mon.conv.settling ∧ (charging .cc).mon.conv.settling = 0 ∧ (charging .cc).mon.chg.state ≠ .cv ∧
    (charging .cv).mon.chg.state = .cv ∧ (charging .cv).mon.chg.lowCount < 9 ∧
    (let s : State := { charging .cv with mon.prot.switches.charge := true, mon.chg.lowCount := 9 }
    (s.mon.prot.switches.charge = true ∧ (99 : Int) < s.mon.chg.settings.iterm) ∧ 10 ≤ s.mon.chg.lowCount + 1) ∧
    (0 ≤ up.mon.conv.remainder ∧ up.mon.conv.remainder ≤ 3599999 ∧ periodUs up.mon.conv.rate ≤ 4000) ∧
    up.mon.conv.pendingRate = none := by decide

/-- The tenth low current in a row ends CV: DONE, and the counter full (R123, R141). -/
theorem test_termination :
    let s : State := { charging .cv with mon.prot.switches.charge := true, mon.chg.lowCount := 9 }
    let t := after (.currentResult 99) s
    t.mon.chg.state = .done ∧ t.mon.conv.charge = 2000000 ∧ t.mon.conv.seeded = true := by decide +kernel

theorem witness_current_rate : up.Takes ∧ ((256 : Nat) = 256) ∧ ((48 : Nat) ≠ 32 ∧ 48 ≠ 64 ∧ 48 ≠ 128 ∧ (48 : Nat) ≠ 256) :=
  ⟨⟨by decide, by decide⟩, rfl, by decide⟩

theorem witness_voltage_results :
    0 < up.mon.conv.scanDiscards ∧ ({ up with mon.conv.scanDiscards := 0 } : State).mon.conv.scanList[0]? =
      some ⟨.cell1, 64, 1⟩ ∧
    ({ up with mon.conv.pendingScan := some defaultScanList } : State).mon.conv.pendingScan = some defaultScanList ∧
    (checkScanList [⟨some .cell1, 32, 0⟩, ⟨some .cell2, 256, 3⟩, ⟨some .input, 64, 1⟩, ⟨some .battTemp, 128, 2⟩]).isSome =
      true ∧ checkScanList [⟨some .current, 32, 0⟩] = none := by decide

/-- A list whose entries, channels, rates and discards are good, and has the four channels. -/
theorem witness_scan_list :
    let entries : List ScanArg :=
      [⟨some .cell1, 32, 0⟩, ⟨some .cell2, 256, 3⟩, ⟨some .input, 64, 1⟩, ⟨some .battTemp, 128, 2⟩]
    up.Takes ∧ 1 ≤ entries.length ∧ entries.length ≤ 8 ∧
    (∀ c ∈ [Channel.cell1, .cell2, .input, .battTemp], ∃ a ∈ entries, a.channel = some c) :=
  ⟨⟨by decide, by decide⟩, by decide, by decide, by decide⟩

theorem witness_energy_states :
    (cells up 3600 3500).latest .cell1 = some 3600 ∧ (cells up 3600 3500).latest .cell2 = some 3500 ∧
    up.latest .cell1 = none ∧ up.computeEnergy = up.mon.energy.state ∧
    (cells up 3400 3400).computeEnergy = .battery ∧ (cells up 3400 3399).computeEnergy = .low ∧
    ({ up with mon.prot.earlyWarning := true } : State).computeEnergy = .critical ∧ up.pathUp = true ∧
    (charging .cc).computeEnergy = .supplied ∧ ((withSlot (slotIn .closing)).slot 0).state = .closing ∧
    (up.slot 0).state = .free := by decide

theorem witness_counter_set :
    up.Takes ∧ ((100 : Nat) ≤ 20000 ∧ (20000000 : Nat) ≤ 20000 * 1000 ∧ (500 : Nat) ≤ 500 ∧ (3000 : Nat) ≤ 3800) ∧
    checkCounter ⟨20000, 20000000, 500, 3800⟩ = true ∧ checkCounter ⟨20000, 20000001, 500, 3800⟩ = false :=
  ⟨⟨by decide, by decide⟩, by decide, by decide, by decide⟩

/-- COUNTER SET takes capacity, levels and charge at once, and seeds the counter (R122). -/
theorem test_counter_set :
    let t := after (.counterSet 1 ⟨2000, 1000000, 100, 3300⟩) up
    t.mon.conv.charge = 1000000 ∧ t.mon.conv.seeded = true ∧ t.mon.conv.soc = 500 ∧ t.mon.energy.reserve = 100 ∧
    t.path.link.replies = [⟨1, .ok, .none⟩] := by decide +kernel

theorem witness_rail :
    (up.mon.prot.switches.discharge = true ∧ up.mon.energy.railUp = true) ∧
    (let s : State := { up with mon.prot.switches.discharge := false }
    s.mon.prot.switches.discharge = false ∧ s.mon.chg.inputPresent = false ∧ s.mon.energy.railUp = true) ∧
    (let s : State := { up with mon.energy.railUp := false }
    s.mon.prot.switches.discharge = true ∧ s.mon.energy.railUp = false) ∧
    ({ up with mon.energy.railUp := false, mon.prot.switches.discharge := false } : State).mon.energy.railUp = false := by
  decide

/-- The part with one protection timer set, 20 ms ahead. -/
def timed (f : Protection → Protection) : State := up.onProt f

theorem witness_trips_and_holdoffs :
    ((timed fun p => { p with scLeft := some 200 }).mon.prot.scLeft = some 200 ∧
      (timed fun p => { p with scLeft := some 200 }).nothingEarlier 200 = true) ∧
    ((timed fun p => { p with doc := some 20 }).mon.prot.doc = some 20 ∧
      (timed fun p => { p with doc := some 20 }).nothingEarlier ((timed fun p => { p with doc := some 20 }).monLeft 20) =
        true) ∧
    (timed fun p => { p with coc := some 20 }).nothingEarlier ((timed fun p => { p with coc := some 20 }).monLeft 20) =
      true ∧
    (timed fun p => { p with dischargeHoldoff := some 1000, dischargeTrip := true }).nothingEarlier 1000000 = true ∧
    (timed fun p => { p with dischargeHoldoff := some 1000, dischargeTrip := true }).monLeft 1000 = 1000000 ∧
    (timed fun p => { p with chargeHoldoff := some 1000, chargeTrip := true }).nothingEarlier 1000000 = true ∧
    up.mon.prot.lockout = false ∧ up.mon.prot.duvCut = false ∧
    (timed fun p => { p with lockout := true }).mon.prot.lockout = true ∧
    (timed fun p => { p with duvCut := true }).mon.prot.duvCut = true := by decide +kernel

/-- 08 section 8.7, first rows: the DOC expiry opens the switch with input absent, and the rail is lost; the hold-off's
end brings both back, in a path reset with cause RAIL. -/
theorem test_trip_and_recovery :
    let t := after .docTimerExpiry (timed fun p => { p with doc := some 20 })
    let u := after .dischargeHoldoffExpiry t
    t.mon.prot.switches.discharge = false ∧ t.mon.energy.railUp = false ∧ t.mon.prot.dischargeHoldoff = some 1020 ∧
    u.mon.prot.switches.discharge = true ∧ u.mon.energy.railUp = true ∧ u.mon.energy.cause = .rail := by decide +kernel

theorem witness_cell_conditions :
    (let s := timed fun p => { p with covBlocking := true }
    s.mon.prot.covBlocking = true ∧ atLeast s.higherCell (4300 - 150) = false ∧
      (cells s 4150 3000).higherCell = some 4150) ∧
    up.mon.prot.covBlocking = false ∧ up.mon.prot.duvCut = false ∧ up.mon.prot.duv = none ∧
    (cells up 3000 3500).lowerCell = some 3000 ∧ (cells up 2999 3500).lowerCell = some 2999 ∧
    (let s := timed fun p => { p with duv := some ⟨4000, some 2500⟩ }
    s.mon.prot.duv ≠ none ∧ s.mon.prot.duv = some ⟨4000, some 2500⟩ ∧ s.nothingEarlier (s.monLeft 2500) = true) ∧
    (let s := timed fun p => { p with duv := some ⟨4000, none⟩, earlyWarning := true }
    s.mon.prot.duv = some ⟨4000, none⟩ ∧ s.nothingEarlier (s.monLeft 4000) = true) ∧
    (let s := timed fun p => { p with cov := some 1000 }
    s.mon.prot.cov = some 1000 ∧ s.nothingEarlier (s.monLeft 1000) = true) := by decide +kernel

/-- Unknown cells lie under every threshold. -/
theorem witness_under_unknown : ∀ x, up.lowerCell = some x → x < 3000 := by intro x h; cases h

theorem witness_protection_requests :
    up.Takes ∧ (timed fun p => { p with lockout := true }).Takes ∧
    (timed fun p => { p with duvCut := true }).mon.prot.duvCut = true ∧
    (timed fun p => { p with dischargeHoldoff := some 1000 }).mon.prot.dischargeHoldoff ≠ none ∧
    up.mon.prot.dischargeHoldoff = none ∧ up.mon.prot.transfer = none ∧
    checkProtect protectArgs = some ProtectSettings.default ∧ checkProtect { protectArgs with scMa := 3999 } = none ∧
    checkProtect { protectArgs with autoRecovery := none } = none :=
  ⟨⟨by decide, by decide⟩, ⟨by decide, by decide⟩, by decide, by decide, by decide, by decide, by decide, by decide,
    by decide⟩

/-- On battery an OFF removes the rail and its reply; with input present both stay (R132). -/
theorem witness_discharge_off :
    (let u := ({ up.owing with mon.prot.dischargeRequest := false, mon.prot.recoveryArmed := false } : State).settleSwitches
    u.pathUp = false) ∧
    (let u := ({ (charging .cc).owing with
      mon.prot.dischargeRequest := false, mon.prot.recoveryArmed := false } : State).settleSwitches
    u.pathUp = true) ∧
    (({ up.owing with mon.prot.dischargeRequest := true } : State).settleSwitches).pathUp = true := by decide

theorem witness_protect_transfer :
    let s : State :=
      { up with mon.prot.transfer := some ⟨.default, 2⟩, path.link.protectTag := some 5, path.link.outstanding := 1 }
    s.mon.prot.transfer = some ⟨.default, 2⟩ ∧ s.nothingEarlier (s.monLeft 2) = true ∧
    s.path.link.protectTag = some 5 ∧ s.pathUp = true ∧
    (after (.protectTransferExpiry false) s).path.link.replies = [⟨5, .ok, .none⟩] := by decide +kernel

theorem witness_charger_changes :
    up.mon.chg.state = .noInput ∧ (charging .cc).mon.chg.state ≠ .cv ∧
    (let s : State := { charging .qualify with mon.chg.qualify := some 500 }
    s.mon.chg.qualify = some 500 ∧ s.nothingEarlier (s.monLeft 500) = true) ∧
    (let s : State := { charging .precharge with mon.chg.prechargeTimer := .running 60000 }
    s.mon.chg.prechargeTimer = .running 60000 ∧ s.nothingEarlier (s.monLeft 60000) = true) ∧
    (let s : State := { charging .cc with mon.chg.fastTimer := .running 60000 }
    s.mon.chg.fastTimer = .running 60000 ∧ s.nothingEarlier (s.monLeft 60000) = true) ∧
    (let s : State := { charging .cc with mon.chg.zero := some 2000 }
    s.mon.chg.zero = some 2000 ∧ s.mon.chg.state = .cc ∧ s.nothingEarlier (s.monLeft 2000) = true) ∧
    (let s : State := { charging .hold with mon.chg.weakClear := some 5000, mon.chg.causes.inputWeak := true }
    s.mon.chg.weakClear = some 5000 ∧ s.mon.chg.state = .hold ∧ s.nothingEarlier (s.monLeft 5000) = true) ∧
    (charging .done).mon.chg.state = .done ∧ atLeast (charging .done).higherCell (4200 - 150) = false ∧
    atLeast (cells (charging .done) 4050 4000).higherCell (4200 - 150) = true := by decide +kernel

/-- The end of QUALIFY with the temperature unknown enters HOLD; with a good pack at 3500 mV, CC at the full current
(R139, R142, R145). -/
theorem test_qualify_end :
    let s : State := { charging .qualify with mon.chg.qualify := some 500 }
    (after .qualifyDeadlineExpiry s).mon.chg.state = .hold ∧
    (let t := after .qualifyDeadlineExpiry (cells { s with mon.chg.windowInside := true } 3500 3500)
    t.mon.chg.state = .cc ∧ t.mon.chg.setpoint = 1000 ∧ t.mon.prot.switches.charge = true) := by decide +kernel

theorem witness_charger_inputs :
    up.Takes ∧ checkCharge defaultChargeSettings = true ∧ checkCharge { defaultChargeSettings with icc := 99 } = false ∧
    (charging .cc).mon.chg.inputPresent = true ∧ up.mon.chg.inputPresent = false ∧ up.mon.chg.highCount < 2 ∧
    2 ≤ ({ up with mon.chg.highCount := 2 } : State).mon.chg.highCount ∧ (charging .hold).mon.chg.state = .hold ∧
    ((3999 : Int) < 4000 ∧ (4299 : Int) < 4300) ∧ up.latest .battTemp = none ∧
    ({ up with mon.conv.histories.battTemp := [⟨401, 0⟩] } : State).latest .battTemp = some 401 :=
  ⟨⟨by decide, by decide⟩, by decide, by decide, by decide, by decide, by decide, by decide, by decide, by decide, by decide,
    by decide⟩

/-- The third high INPUT result in a row makes input present, and QUALIFY begins for 500 ms (R136, R139). -/
theorem test_input_present :
    let t := up.chargerInput 5000 |>.chargerInput 5000 |>.chargerInput 5000
    t.mon.chg.inputPresent = true ∧ t.mon.chg.state = .qualify ∧ t.mon.chg.qualify = some 500 ∧
    t.mon.energy.state = .supplied := by decide +kernel

/-- The balance demand at the bounds of its table, and with a cell unknown (R148). -/
theorem test_next_demand :
    nextDemand .none (some 4030) (some 4000) = .none ∧ nextDemand .none (some 4031) (some 4000) = .cell1 ∧
    nextDemand .none (some 4000) (some 4031) = .cell2 ∧ nextDemand .cell1 (some 4010) (some 4000) = .cell1 ∧
    nextDemand .cell1 (some 4009) (some 4000) = .none ∧ nextDemand .cell2 (some 4000) (some 4010) = .cell2 ∧
    nextDemand .cell2 (some 4000) (some 4009) = .none ∧ nextDemand .cell1 none (some 4000) = .none := by decide

/-- The queue of the recording state holds a block, so that a removal leaves credit pending (R75, R90, R164). -/
theorem witness_teardown_credit :
    heldBlocks recording.path.card.queue = 1 ∧
    (after .cardDetectFall recording).path.link.creditPending = true := by decide +kernel

end Sys2Proof.Tests
end

section
/-! PROOFS. Motion intake and time base (01), first layer: what the operations shared with the other blocks answer where
the path domain is up, where a request is taken, and where a deadline is reached; and what time that passes moves. -/

namespace Sys2Proof.Machine

theorem clamp_eq_max_min (v lo hi : Int) (h : lo ≤ hi) : clamp v lo hi = max lo (min hi v) := by
  unfold clamp; split
  · omega
  · split <;> omega

/-- A time run on by the interval to a later one is that one. -/
theorem later_sub (t d : Time) : later t (d - t).toNat = d := by
  simp only [later, BitVec.ofNat_toNat, BitVec.setWidth_eq]
  rw [BitVec.add_comm, BitVec.sub_add_cancel]

end Sys2Proof.Machine

namespace Sys2Proof.Machine.State

/-! ### Steps, requests and replies while the path domain is up -/

theorem whenUp_of_pathUp {s : State} (h : s.pathUp = true) (body : State → State) : s.whenUp body = body s := by
  simp [whenUp, h]

/-- A request that is taken runs its body with one more request outstanding (R161). -/
theorem request_of_takes {s : State} (h : s.Takes) (tag : Byte) (kind : RequestKind) (body : State → State) :
    s.request tag kind body = body s.owing := by
  obtain ⟨hup, hfew⟩ := h
  rcases s.request_cases tag kind body with ⟨_, _, heq⟩ | ⟨_, hmany, _⟩ | ⟨hdown, _⟩
  · exact heq
  · exact absurd hfew (Nat.not_lt.mpr hmany)
  · rw [hup] at hdown; cases hdown

theorem reply_of_pathUp {s : State} (h : s.pathUp = true) (tag : Byte) (code : ReplyCode) (data : ReplyData) :
    s.reply tag code data = s.answered tag code data := by
  rcases s.reply_cases tag code data with ⟨_, heq⟩ | ⟨hdown, _⟩
  · exact heq
  · rw [h] at hdown; cases hdown

theorem answer_of_pathUp {s : State} (h : s.pathUp = true) (tag : Byte) (code : ReplyCode) :
    s.answer tag code = s.answered tag code .none := reply_of_pathUp h tag code .none

/-- A request taken and answered with its state otherwise as it was. -/
theorem owing_answer {s : State} (h : s.pathUp = true) (tag : Byte) (code : ReplyCode) :
    s.owing.answer tag code = s.replied tag code .none := answer_of_pathUp (s := s.owing) h tag code

/-! ### Time that passes, and the deadlines it reaches -/

/-- The expiry of a deadline that is set, with none before it (log 3). -/
theorem expiry_of_nothingEarlier {s : State} {us : Nat} (h : s.nothingEarlier us = true) (act : State → State) :
    s.expiry (some us) act = act (s.elapse us) := by
  simp [expiry, h]

theorem elapse_now (s : State) (us : Nat) :
    (s.elapse us).now = if s.pathUp then later s.now us else s.now := by
  rcases s.elapse_cases us with ⟨rfl, heq⟩ | ⟨_, _, _, _, hnow⟩
  · rw [heq]; simp [later]
  · exact hnow

theorem elapse_monNow (s : State) (us : Nat) (h : s.mon.conv.subMs < 1000) :
    (s.elapse us).monNow = later s.monNow ((s.mon.conv.subMs + us) / 1000) := by
  rcases s.elapse_cases us with ⟨rfl, heq⟩ | ⟨_, hmon, _, _, _⟩
  · rw [heq, Nat.add_zero, Nat.div_eq_of_lt h]; simp [later]
  · exact hmon

/-- Time that passes moves the two counters, the part of a millisecond and the SC delay count, and nothing else. -/
theorem elapse_eq (s : State) (us : Nat) :
    s.elapse us =
      { s with
        path.intake.timestamp := (s.elapse us).now
        mon.conv.time := (s.elapse us).monNow
        mon.conv.subMs := (s.elapse us).mon.conv.subMs
        mon.prot.scLeft := s.mon.prot.scLeft.map (· - us) } := by
  by_cases h : us = 0
  · subst h
    have hsc : s.mon.prot.scLeft.map (· - 0) = s.mon.prot.scLeft := by simp
    rw [hsc, show s.elapse 0 = s from rfl]; rfl
  · unfold elapse; rw [if_neg h]; rfl

theorem elapse_intake (s : State) (us : Nat) :
    (s.elapse us).path.intake = { s.path.intake with timestamp := (s.elapse us).now } := by
  conv_lhs => rw [elapse_eq]

/-- Run on by the time left to a path-side deadline ahead, the timestamp counter stands at it (R1). -/
theorem elapse_pathLeft_now (s : State) (d : Time) (hup : s.pathUp = true) (h : before s.now d = true) :
    (s.elapse (s.pathLeft d)).now = d := by
  rw [elapse_now, if_pos hup, pathLeft, if_pos h, later_sub]

/-- Run on by the time left to a monitor-side deadline ahead, the monitor time stands at it (R110). -/
theorem elapse_monLeft_monNow (s : State) (d : Time) (hsub : s.mon.conv.subMs < 1000)
    (h : before s.monNow d = true) : (s.elapse (s.monLeft d)).monNow = d := by
  have hms : 1 ≤ (d - s.monNow).toNat := by
    simp only [before, decide_eq_true_eq] at h; exact h.1
  have hwhole : (s.mon.conv.subMs + s.monLeft d) / 1000 = (d - s.monNow).toNat := by
    rw [monLeft, monLeftMs, if_pos h]; omega
  rw [elapse_monNow s _ hsub, hwhole, later_sub]

/-- A command is, in a state, the expiry of a deadline: of the monitor domain, or of the path domain while that is
up. -/
def Expires (s : State) (c : Instr) (left : Option Nat) : Prop :=
  ∃ act, exec c s = .next (s.expiry left act) ∨ exec c s = .next (s.whenUp fun _ => s.expiry left act)

/-- The commands of State.timers are the expiries of the deadlines beside them. -/
theorem timers_expires (s : State) : ∀ t ∈ s.timers, s.Expires t.1 t.2 := by
  simp only [timers, List.forall_mem_cons]
  refine ⟨⟨_, .inl rfl⟩, ⟨_, .inr rfl⟩, ⟨_, .inr rfl⟩, ⟨_, .inr rfl⟩, ⟨_, .inr rfl⟩, ⟨_, .inr rfl⟩, ⟨_, .inr rfl⟩,
    ⟨_, .inr rfl⟩, ⟨_, .inr rfl⟩, ⟨_, .inl rfl⟩, ⟨_, .inl rfl⟩, ⟨_, .inl rfl⟩, ⟨_, .inl rfl⟩, ⟨_, .inl rfl⟩,
    ⟨_, .inl rfl⟩, ⟨_, .inl rfl⟩, ⟨_, .inl rfl⟩, ⟨_, .inl rfl⟩, ⟨_, .inl rfl⟩, ⟨_, .inl rfl⟩, ⟨_, .inl rfl⟩,
    ⟨_, .inl rfl⟩, ⟨_, .inl rfl⟩, List.forall_mem_nil _⟩

/-- The expiry of a deadline that is not set changes nothing (log 3). -/
theorem Expires.exec_of_none {s : State} {c : Instr} (h : s.Expires c none) : exec c s = .next s := by
  obtain ⟨act, h | h⟩ := h
  · exact h
  · rcases s.whenUp_cases fun _ => s.expiry none act with ⟨_, heq⟩ | ⟨_, heq⟩
    · rw [h, heq]; rfl
    · rw [h, heq]

end Sys2Proof.Machine.State

namespace Sys2Proof.Machine

theorem step_of_due {s : State} {c : Instr} (hempty : s.pending = []) (hdue : s.due = some c) : step s = exec c s := by
  simp [step, hempty, hdue]

theorem step_of_nothing_due {s : State} (hempty : s.pending = []) (hdue : s.due = none) :
    step s = .next (s.elapse 1) := by
  simp [step, hempty, hdue]

/-- Settles O2: the two counters are read off State.elapse, and each command of State.timers is its deadline's
expiry. -/
theorem timePassesOnAnEmptyQueue : Obligations.TimePassesOnAnEmptyQueue := by
  refine ⟨fun s hempty => ⟨fun c hdue => step_of_due hempty hdue, fun hdue => step_of_nothing_due hempty hdue⟩,
    fun s d hup h => s.elapse_pathLeft_now d hup h, fun s d hsub h => s.elapse_monLeft_monNow d hsub h,
    fun s us hup => ?_, fun s us hdown => ?_, fun s us hsub => s.elapse_monNow us hsub, fun s us => s.elapse_eq us,
    fun c s hmem => (s.timers_expires _ hmem).exec_of_none⟩
  · rw [s.elapse_now, if_pos hup]; rfl
  · rw [s.elapse_now, hdown]; rfl

end Sys2Proof.Machine
end

section
/-! PROOFS. The swap of pending settings (03 section 3.3), part by part: when one is due, and what it makes of the
window, the intake and the engine. -/

namespace Sys2Proof.Machine

/-! ### The parts of a swap -/

theorem clampShake_eq_heldWithin (v : Int) (limit : Nat) : clampShake v limit = heldWithin v limit :=
  clamp_eq_max_min v _ _ (by omega)

/-- The shake at a swap that brings in a motion setup, EDGE added where the clamp changes it (R22). -/
theorem Engine.clampToLimits_shake (e : Engine) (limit : PerAxis Nat) :
    (e.clampToLimits limit).shake =
      ⟨heldWithin e.shake.yaw limit.yaw, heldWithin e.shake.pitch limit.pitch, heldWithin e.shake.roll limit.roll⟩ := by
  simp only [clampToLimits, clampShake_eq_heldWithin]

theorem Engine.clampToLimits_flags (e : Engine) (limit : PerAxis Nat) :
    (e.clampToLimits limit).flags =
      { e.flags with edge := e.flags.edge || decide ((e.clampToLimits limit).shake ≠ e.shake) } := rfl

/-- The intake at a swap that brings in a motion setup, field by field (R3). -/
theorem Intake.takeSetup_eq (i : Intake) (m : MotionSetup) :
    i.takeSetup m =
      { i with
        active := m
        pending := none
        state := if m.enable then (if i.state = .stopped then .running else i.state) else .stopped
        reference := if m.enable = true ∧ i.state ≠ .stopped then i.reference
          else if m.enable = true ∨ i.state ≠ .stopped then none else i.reference
        silence := if m.enable then (if i.state = .stopped then some (i.timestamp + 50000) else i.silence)
          else if i.state = .stopped then i.silence else none
        lastEdge := if m.enable = true ∧ i.state = .stopped then none else i.lastEdge } := by
  rcases hstate : i.state with _ | _ | _ <;> rcases henable : m.enable with _ | _ <;>
    simp [takeSetup, hstate, henable, later, Config.silenceUs]

namespace State

theorem takeableGeometry_eq (s : State) :
    s.takeableGeometry = if s.path.window.pending.isNone || s.clipBusy then none else s.path.window.pending := by
  rcases hp : s.path.window.pending with _ | g <;> simp [takeableGeometry, hp]

/-- Some pending setting is present and can be taken (R40, R41). -/
theorem swapDue_eq (s : State) :
    s.swapDue = (!(s.path.window.pending.isNone || s.clipBusy) || s.path.intake.pending.isSome ||
      s.path.engine.pendingH.isSome || s.path.engine.pendingV.isSome) := by
  have htake : s.takeableGeometry.isSome = !(s.path.window.pending.isNone || s.clipBusy) := by
    rcases hp : s.path.window.pending with _ | g <;> rcases hbusy : s.clipBusy with _ | _ <;>
      simp [takeableGeometry, hp, hbusy]
  rw [swapDue, htake]

theorem swapGeometry_window (s : State) :
    s.swapGeometry.path.window =
      { s.path.window with
        geometry := if s.path.window.pending.isNone || s.clipBusy then s.path.window.geometry
          else s.path.window.pending
        pending := if s.path.window.pending.isNone || s.clipBusy then s.path.window.pending else none } := by
  rw [swapGeometry, takeableGeometry_eq]
  rcases hheld : s.path.window.pending.isNone || s.clipBusy with _ | _
  · obtain ⟨hp, _⟩ := Bool.or_eq_false_iff.mp hheld
    obtain ⟨g, hg⟩ := Option.isSome_iff_exists.mp (by simpa using hp)
    simp [hg]
  · simp

theorem swapMotion_intake (s : State) :
    s.swapMotion.path.intake = s.path.intake.pending.elim s.path.intake s.path.intake.takeSetup := by
  rcases hp : s.path.intake.pending with _ | m <;> simp [swapMotion, hp]

/-- Of the engine, the swap of a motion setup moves the shake and the flags alone. -/
theorem swapMotion_engine (s : State) :
    s.swapMotion.path.engine =
      { s.path.engine with
        shake := s.swapMotion.path.engine.shake
        flags := s.swapMotion.path.engine.flags } := by
  rcases hp : s.path.intake.pending with _ | m <;> simp [swapMotion, hp, Engine.clampToLimits]

theorem swapMotion_shake_flags_of_none {s : State} (h : s.path.intake.pending = none) :
    s.swapMotion.path.engine.shake = s.path.engine.shake ∧ s.swapMotion.path.engine.flags = s.path.engine.flags := by
  simp [swapMotion, h]

theorem swapMotion_shake_flags_of_some {s : State} {m : MotionSetup} (h : s.path.intake.pending = some m) :
    s.swapMotion.path.engine.shake =
        ⟨heldWithin s.path.engine.shake.yaw m.limit.yaw, heldWithin s.path.engine.shake.pitch m.limit.pitch,
          heldWithin s.path.engine.shake.roll m.limit.roll⟩ ∧
      s.swapMotion.path.engine.flags =
        { s.path.engine.flags with
          edge := s.path.engine.flags.edge || decide (s.swapMotion.path.engine.shake ≠ s.path.engine.shake) } := by
  simp only [swapMotion, h, onEngine_engine, onIntake_engine]
  exact ⟨Engine.clampToLimits_shake _ _, Engine.clampToLimits_flags _ _⟩

/-! ### The swap -/

theorem swap_of_not_due {s : State} (h : s.swapDue = false) : s.swap = s := by
  simp [swap, h]

theorem swap_of_due {s : State} (h : s.swapDue = true) :
    s.swap = (s.swapGeometry.swapMotion.onEngine Engine.takeTables).onWindow fun w =>
      { w with generation := w.generation + 1 } := by
  simp [swap, h]

theorem swap_window_of_due {s : State} (h : s.swapDue = true) :
    s.swap.path.window =
      { s.path.window with
        geometry := if s.path.window.pending.isNone || s.clipBusy then s.path.window.geometry
          else s.path.window.pending
        pending := if s.path.window.pending.isNone || s.clipBusy then s.path.window.pending else none
        generation := s.path.window.generation + 1 } := by
  simp [swap_of_due h, swapGeometry_window]

theorem swap_intake_of_due {s : State} (h : s.swapDue = true) :
    s.swap.path.intake = s.path.intake.pending.elim s.path.intake s.path.intake.takeSetup := by
  simp [swap_of_due h, swapMotion_intake]

theorem swap_engine_of_due {s : State} (h : s.swapDue = true) :
    s.swap.path.engine =
      { s.path.engine with
        shake := s.swapMotion.path.engine.shake
        flags := s.swapMotion.path.engine.flags
        lensH := s.path.engine.pendingH.or s.path.engine.lensH
        lensV := s.path.engine.pendingV.or s.path.engine.lensV
        pendingH := none
        pendingV := none } := by
  have hmotion : s.swapGeometry.swapMotion.path.engine = s.swapMotion.path.engine := by
    rcases hp : s.path.intake.pending with _ | m <;> simp [swapMotion, hp]
  rw [swap_of_due h, onWindow_engine, onEngine_engine, hmotion, swapMotion_engine]
  simp [Engine.takeTables]

/-- A swap leaves the counter of the timestamps as it was (R1). -/
@[simp] theorem swap_now (s : State) : s.swap.now = s.now := by
  rcases h : s.swapDue with _ | _
  · rw [swap_of_not_due h]
  · rw [now, swap_intake_of_due h]
    rcases s.path.intake.pending with _ | m
    · rfl
    · simp only [Option.elim_some, Intake.takeSetup_eq]; rfl

end State

/-- Settles O27: the window, the intake and the engine after a swap that is due are those of its parts. -/
theorem swapTakesEveryPendingSetting : Obligations.SwapTakesEveryPendingSetting := by
  intro s held some_
  have hsome : s.swapDue = some_ := s.swapDue_eq
  refine ⟨fun h => State.swap_of_not_due (hsome.trans h), fun h => ?_⟩
  have hdue : s.swapDue = true := hsome.trans h
  have hengine := State.swap_engine_of_due hdue
  have hintake := State.swap_intake_of_due hdue
  obtain ⟨_, _, hmon, hslots, hcard, hlink, _, _⟩ := s.swap_frame
  rw [hengine]
  refine ⟨State.swap_window_of_due hdue, rfl, rfl, rfl, rfl, rfl, rfl, rfl, rfl, hslots, hcard, hlink, hmon,
    fun hp => ⟨?_, State.swapMotion_shake_flags_of_none hp⟩, fun m hp => ⟨?_, State.swapMotion_shake_flags_of_some hp⟩⟩
  · rw [hintake, hp]; rfl
  · rw [hintake, hp]; exact Intake.takeSetup_eq _ m

end Sys2Proof.Machine
end

section
/-! PROOFS. The commands of the motion intake (01): edges, samples, the silence watch, the shock hold and the
transfers that pass through the inertial port. -/

namespace Sys2Proof.Machine

/-! ### Edges -/

theorem edge_of_stopped {i : Intake} (h : i.state = .stopped) : edge i = i := by
  simp [edge, h]

/-- An edge in RUNNING or SILENT, field by field (R5 to R7). -/
theorem edge_of_not_stopped {i : Intake} (h : i.state ≠ .stopped) :
    edge i =
      { i with
        state := .running
        port := if i.port = .free then .sampleRead i.timestamp i.active.startAddress i.active.order else i.port
        overruns := if i.port = .free then i.overruns else satAdd i.overruns 1
        reference := if i.state = .silent then none else i.reference
        lastEdge := some i.timestamp
        silence := some (later i.timestamp Config.silenceUs) } := by
  rcases hstate : i.state with _ | _ | _
  · exact absurd hstate h
  all_goals rcases hport : i.port with _ | _ | _ | _ <;> simp [edge, hstate, hport]

theorem exec_dataReadyEdge {s : State} (hup : s.pathUp = true) : exec .dataReadyEdge s = .next (s.onIntake edge) :=
  congrArg _ (State.whenUp_of_pathUp hup _)

/-- Settles O21, by the two equations of an edge. -/
theorem dataReadyEdgeByState : Obligations.DataReadyEdgeByState := by
  intro s hup
  rw [exec_dataReadyEdge hup]
  refine ⟨fun h => ?_, fun h => ?_⟩
  · rw [State.onIntake, edge_of_stopped h]
  · rw [State.onIntake, edge_of_not_stopped h]; rfl

/-! ### Samples -/

/-- A byte of the twelve, read out of their list. -/
theorem twelveBytes_getD (b : Vector Byte 12) (n : Nat) (h : n < 12) : b.toList.getD n 0 = b[n] := by
  simp [List.getD_eq_getElem?_getD, h]

theorem rawValue_highFirst (b : Vector Byte 12) (k : Nat) (h : k < 6) :
    rawValue .highFirst b k = (b[2 * k] ++ b[2 * k + 1]).toInt := by
  simp only [rawValue, twelveBytes_getD b (2 * k) (by omega), twelveBytes_getD b (2 * k + 1) (by omega)]

theorem rawValue_lowFirst (b : Vector Byte 12) (k : Nat) (h : k < 6) :
    rawValue .lowFirst b k = (b[2 * k + 1] ++ b[2 * k]).toInt := by
  simp only [rawValue, twelveBytes_getD b (2 * k) (by omega), twelveBytes_getD b (2 * k + 1) (by omega)]

theorem condition_eq (raw bias : Int) (sign : Sign) :
    condition raw sign bias = max (-32767) (min 32767 ((if sign = .plus then raw else -raw) - bias)) := by
  cases sign <;> exact clamp_eq_max_min _ _ _ (by omega)

/-- Settles O22, pair by pair of the twelve bytes, and with the clamp in closed form. -/
theorem sampleBytesBecomeRates : Obligations.SampleBytesBecomeRates := by
  refine ⟨fun b => ⟨?_, ?_⟩, fun raw bias sign => condition_eq raw bias sign, fun m r => rfl⟩
  · simp (disch := omega) only [assemble, rawValue_highFirst]
  · simp (disch := omega) only [assemble, rawValue_lowFirst]

/-- A raw gyro value at the end of its range (R9). -/
theorem RawSample.clipped_eq (r : RawSample) :
    r.clipped = decide (r.gyroX = -32768 ∨ r.gyroX = 32767 ∨ r.gyroY = -32768 ∨ r.gyroY = 32767 ∨ r.gyroZ = -32768 ∨
      r.gyroZ = 32767) := by
  simp only [RawSample.clipped, atEnd, Bool.beq_eq_decide_eq, Bool.or_assoc, Bool.decide_or]

/-- The shock check of a sample, with a shock or without (R10, R86). -/
theorem State.shockCheck_eq (s : State) (stamp : Time) (sum : Nat) :
    s.shockCheck stamp sum =
      { s with
        path.intake.shockHold := if s.path.intake.active.isShock sum then
            some (extendHold s.path.intake.shockHold (later stamp (1000 * s.path.intake.active.holdMs)))
          else s.path.intake.shockHold
        path.engine.flags.shock := s.path.engine.flags.shock || s.path.intake.active.isShock sum
        path.card.transaction := if s.path.intake.active.isShock sum then s.path.card.markOverlap.transaction
          else s.path.card.transaction } := by
  rw [shockCheck]
  rcases s.path.intake.active.isShock sum with _ | _
  · simp
  · rfl

/-- SAMPLE_READ_COMPLETE with a sample read in progress: the port is freed, and in RUNNING the sample is taken in. -/
theorem exec_sampleReadComplete {s : State} {stamp : Time} {address : Nat} {order : ByteOrder} (hup : s.pathUp = true)
    (hport : s.path.intake.port = .sampleRead stamp address order) (bytes : Vector Byte 12) :
    exec (.sampleReadComplete bytes) s = .next
      (if s.path.intake.state = .running then
        (s.onIntake fun i => { i with port := .free }).takeSample stamp (assemble order bytes)
      else s.onIntake fun i => { i with port := .free }) := by
  show execSampleReadComplete bytes s = _
  rw [execSampleReadComplete, State.whenUp_of_pathUp hup, hport]
  rfl

/-- Settles O23: a sample discarded, and a sample taken in with an interval and without. -/
theorem sampleIsTakenIn : Obligations.SampleIsTakenIn := by
  intro s bytes stamp address order hup hport
  rw [exec_sampleReadComplete hup hport]
  refine ⟨fun hstate => ?_, fun hstate => ?_⟩
  · rw [if_neg hstate]; rfl
  · rw [if_pos hstate]
    rcases href : s.path.intake.reference with _ | t <;>
      simp only [State.takeSample, State.shockCheck_eq, RawSample.clipped_eq, State.onIntake_intake, href] <;> rfl

/-! ### The silence deadline and the shock hold -/

/-- IMU_SILENT at its deadline: the time passes to it, and the intake is SILENT (R5). -/
theorem exec_imuSilent {s : State} {d : Time} (hup : s.pathUp = true) (hset : s.path.intake.silence = some d)
    (harrives : s.nothingEarlier (s.pathLeft d) = true) :
    exec .imuSilent s = .next
      (((s.elapse (s.pathLeft d)).onIntake fun i =>
        { i with state := .silent, silence := none, silentEntries := satAdd i.silentEntries 1 }).notify
          (.imuSilent (s.elapse (s.pathLeft d)).now (s.elapse (s.pathLeft d)).path.intake.lastEdge)) := by
  show execImuSilent s = _
  rw [execImuSilent, State.whenUp_of_pathUp hup, hset, Option.map_some, State.expiry_of_nothingEarlier harrives]

/-- SHOCK_HOLD_EXPIRY at its deadline: the time passes to it, and the hold ends (R11). -/
theorem exec_shockHoldExpiry {s : State} {d : Time} (hup : s.pathUp = true) (hset : s.path.intake.shockHold = some d)
    (harrives : s.nothingEarlier (s.pathLeft d) = true) :
    exec .shockHoldExpiry s = .next
      ((s.elapse (s.pathLeft d)).onIntake fun i => { i with shockHold := none }) := by
  show execShockHoldExpiry s = _
  rw [execShockHoldExpiry, State.whenUp_of_pathUp hup, hset, Option.map_some,
    State.expiry_of_nothingEarlier harrives]

/-- Settles O24: time that passes leaves the count of silences and the latest edge as they were. -/
theorem silenceAndShockHoldExpire : Obligations.SilenceAndShockHoldExpire := by
  intro s d hup harrives u
  have hintake : u.path.intake = { s.path.intake with timestamp := u.now } := s.elapse_intake _
  have hentries : s.path.intake.silentEntries = u.path.intake.silentEntries := by rw [hintake]
  have hedge : s.path.intake.lastEdge = u.path.intake.lastEdge := by rw [hintake]
  refine ⟨fun hset => ?_, fun hset => exec_shockHoldExpiry hup hset harrives⟩
  rw [exec_imuSilent hup hset harrives, hentries, hedge]
  rfl

/-! ### Transfers through the inertial port -/

theorem checkTransfer_iff (address count : Nat) :
    checkTransfer address count = true ↔ address ≤ 127 ∧ 1 ≤ count ∧ count ≤ 8 := by
  simp [checkTransfer, within]

/-- What a request for a transfer comes to: a refusal with its reply, or the port held and the reply owed (R13, R14). -/
def State.transferred (s : State) (tag : Byte) (address count : Nat) (transfer : Port) : State :=
  match transferRefusal s.path.intake address count with
  | some code => s.replied tag code .none
  | none => { s.owing with path.intake.port := transfer }

theorem exec_imuWrite {s : State} (htakes : s.Takes) (tag : Byte) (address : Nat) (data : List Byte) :
    exec (.imuWrite tag address data) s =
      .next (s.transferred tag address data.length (.passWrite tag address data)) := by
  show execImuWrite tag address data s = _
  rw [execImuWrite, State.request_of_takes htakes, show s.owing.path.intake = s.path.intake from rfl, State.transferred]
  rcases transferRefusal s.path.intake address data.length with _ | code
  · rfl
  · exact congrArg _ (State.owing_answer htakes.1 tag code)

theorem exec_imuRead {s : State} (htakes : s.Takes) (tag : Byte) (address count : Nat) :
    exec (.imuRead tag address count) s = .next (s.transferred tag address count (.passRead tag address count)) := by
  show execImuRead tag address count s = _
  rw [execImuRead, State.request_of_takes htakes, show s.owing.path.intake = s.path.intake from rfl, State.transferred]
  rcases transferRefusal s.path.intake address count with _ | code
  · rfl
  · exact congrArg _ (State.owing_answer htakes.1 tag code)

theorem State.transferred_badArg (s : State) (tag : Byte) {address count : Nat} (transfer : Port)
    (h : ¬(address ≤ 127 ∧ 1 ≤ count ∧ count ≤ 8)) :
    s.transferred tag address count transfer = s.replied tag .badArg .none := by
  simp [transferred, transferRefusal, mt (checkTransfer_iff address count).mp h]

/-- With good arguments: refused BAD_STATE out of STOPPED, then BUSY on an occupied port, and otherwise begun. -/
theorem State.transferred_of_good (s : State) (tag : Byte) {address count : Nat} (transfer : Port)
    (h : address ≤ 127 ∧ 1 ≤ count ∧ count ≤ 8) :
    (s.path.intake.state ≠ .stopped → s.transferred tag address count transfer = s.replied tag .badState .none) ∧
    (s.path.intake.state = .stopped → s.path.intake.port ≠ .free →
      s.transferred tag address count transfer = s.replied tag .busy .none) ∧
    (s.path.intake.state = .stopped → s.path.intake.port = .free →
      s.transferred tag address count transfer = { s.owing with path.intake.port := transfer }) := by
  have hcheck := (checkTransfer_iff address count).mpr h
  refine ⟨fun hstate => ?_, fun hstate hport => ?_, fun hstate hport => ?_⟩
  · simp [transferred, transferRefusal, hcheck, hstate]
  · simp [transferred, transferRefusal, hcheck, hstate, hport]
  · simp [transferred, transferRefusal, hcheck, hstate, hport]

theorem exec_imuWriteDone {s : State} {tag : Byte} {address : Nat} {data : List Byte} (hup : s.pathUp = true)
    (hport : s.path.intake.port = .passWrite tag address data) :
    exec .imuWriteDone s = .next (({ s with path.intake.port := .free } : State).answered tag .ok .none) := by
  show execImuWriteDone s = _
  rw [execImuWriteDone, State.whenUp_of_pathUp hup, hport]
  exact congrArg _ (State.answer_of_pathUp (s := s.onIntake fun i => { i with port := .free }) hup tag .ok)

theorem exec_imuReadDone {s : State} {tag : Byte} {address count : Nat} {bytes : List Byte} (hup : s.pathUp = true)
    (hport : s.path.intake.port = .passRead tag address count) (hlength : bytes.length = count) :
    exec (.imuReadDone bytes) s =
      .next (({ s with path.intake.port := .free } : State).answered tag .ok (.bytes bytes)) := by
  show execImuReadDone bytes s = _
  rw [execImuReadDone, State.whenUp_of_pathUp hup, hport]
  simp only [hlength, if_true]
  exact congrArg _ (State.reply_of_pathUp (s := s.onIntake fun i => { i with port := .free }) hup tag .ok _)

/-- Settles O25: both requests are State.transferred, clause by clause; the ends of the transfers have lemmas of their
own. -/
theorem passThroughTransfers : Obligations.PassThroughTransfers := by
  refine ⟨fun s tag address count data htakes => ?_, fun s tag address data hup hport => exec_imuWriteDone hup hport,
    fun s tag address count bytes hup hport hlength => exec_imuReadDone hup hport hlength⟩
  rw [exec_imuWrite htakes, exec_imuRead htakes]
  simp only [Host.Outcome.next.injEq]
  exact ⟨s.transferred_badArg tag _, s.transferred_badArg tag _,
    fun ha h1 h8 => s.transferred_of_good tag _ ⟨ha, h1, h8⟩, fun ha h1 h8 => s.transferred_of_good tag _ ⟨ha, h1, h8⟩⟩

end Sys2Proof.Machine
end

section
/-! PROOFS. MOTION SETUP, LENS TABLE and LOAD GEOMETRY: their checks as propositions, and the setting taken, with its
swap while the pixel path is IDLE. -/

namespace Sys2Proof.Machine

/-! ### A setting taken by a request -/

namespace State

/-! The swap of a state whose request is taken is the swap of the state, part by part: it reads nothing of the link. -/

theorem swapGeometry_owing (s : State) : s.owing.swapGeometry = s.swapGeometry.owing := by
  rw [swapGeometry, show s.owing.takeableGeometry = s.takeableGeometry from rfl, swapGeometry]
  rcases s.takeableGeometry with _ | g <;> rfl

theorem swapMotion_owing (s : State) : s.owing.swapMotion = s.swapMotion.owing := by
  rw [swapMotion, show s.owing.path.intake = s.path.intake from rfl, swapMotion]
  rcases s.path.intake.pending with _ | m <;> rfl

theorem swap_owing (s : State) : s.owing.swap = s.swap.owing := by
  rcases hdue : s.swapDue with _ | _
  · rw [swap_of_not_due hdue, swap_of_not_due (s := s.owing) hdue]
  · rw [swap_of_due hdue, swap_of_due (s := s.owing) hdue, swapGeometry_owing, swapMotion_owing]; rfl

/-- A request that took a setting: the pending setting in place and OK, with a swap first while the pixel path is IDLE
(R40). -/
theorem exec_of_setting_taken {s u : State} {c : Instr} {tag : Byte}
    (h : exec c s = .next (u.owing.swapIfIdle.answer tag .ok)) (hup : u.pathUp = true) :
    (u.path.window.path ≠ .idle → exec c s = .next (u.replied tag .ok .none)) ∧
    (u.path.window.path = .idle → exec c s = .next (u.swap.replied tag .ok .none)) := by
  refine ⟨fun hpath => ?_, fun hpath => ?_⟩
  · have hsame : u.owing.swapIfIdle = u.owing := if_neg hpath
    rw [h, hsame, owing_answer hup]
  · have hswap : u.owing.swapIfIdle = u.swap.owing := (if_pos hpath).trans u.swap_owing
    obtain ⟨_, _, _, _, _, _, hpathUp, _⟩ := u.swap_frame
    rw [h, hswap, owing_answer (hpathUp.trans hup)]

theorem clipBusy_iff (s : State) :
    s.clipBusy = true ↔ ∃ i, (s.slot i).state = .recording ∨ (s.slot i).state = .closing := by
  simp [clipBusy, slotIndices, Fin.exists_fin_succ]

end State

/-! ### The checks of the arguments -/

/-- A field of MOTION SETUP that names nothing makes the request fail its check (log 18). -/
theorem checkMotion_of_unnamed {a : MotionArgs}
    (h : a.enable = none ∨ a.order = none ∨ none ∈ [a.axes.yaw, a.axes.pitch, a.axes.roll] ∨
      none ∈ [a.signs.yaw, a.signs.pitch, a.signs.roll]) : checkMotion a = none := by
  obtain ⟨enable, _, order, ⟨ax, ay, az⟩, ⟨sx, sy, sz⟩, _, _, _, _, _, _⟩ := a
  simp only [List.mem_cons, List.not_mem_nil, or_false] at h
  obtain rfl | rfl | (rfl | rfl | rfl) | rfl | rfl | rfl := h <;> simp [checkMotion]

/-- The ranges of MOTION SETUP's fields, and an axis map that uses each gyro axis once (R2, R21). -/
abbrev MotionInRange (a : MotionArgs) (ax ay az : GyroAxis) : Prop :=
  a.startAddress ≤ 127 ∧ (ax ≠ ay ∧ ay ≠ az ∧ ax ≠ az) ∧
    (∀ b ∈ [a.bias.yaw, a.bias.pitch, a.bias.roll], -32768 ≤ b ∧ b ≤ 32767) ∧ a.threshold ≤ 98304 ∧
    1 ≤ a.holdMs ∧ a.holdMs ≤ 255 ∧ (∀ k ∈ [a.rate.yaw, a.rate.pitch, a.rate.roll], 1 ≤ k ∧ k ≤ 65535) ∧
    (∀ k ∈ [a.leak.yaw, a.leak.pitch, a.leak.roll], k ≤ 4095) ∧
    ∀ k ∈ [a.limit.yaw, a.limit.pitch, a.limit.roll], 1000 ≤ k ∧ k ≤ 2000000

theorem checkMotion_of_named {a : MotionArgs} {enable : Bool} {order : ByteOrder} {ax ay az : GyroAxis}
    {sx sy sz : Sign} (henable : a.enable = some enable) (horder : a.order = some order)
    (haxes : a.axes = ⟨some ax, some ay, some az⟩) (hsigns : a.signs = ⟨some sx, some sy, some sz⟩) :
    checkMotion a = if MotionInRange a ax ay az then
        some ⟨enable, a.startAddress, order, ⟨ax, ay, az⟩, ⟨sx, sy, sz⟩, a.bias, a.threshold, a.holdMs, a.rate, a.leak,
          a.limit⟩
      else none := by
  simp only [checkMotion, henable, horder, haxes, hsigns, Option.bind_eq_bind, Option.bind_some]
  refine if_congr ?_ rfl rfl
  simp [MotionInRange, within, PerAxis.all, and_assoc]

theorem nonDecreasing_iff_isChain (l : List Nat) : nonDecreasing l = true ↔ l.IsChain (· ≤ ·) := by
  induction l with
  | nil => simp [nonDecreasing]
  | cons a rest ih =>
    cases rest with
    | nil => simp [nonDecreasing]
    | cons b rest => simp [nonDecreasing, ih]

theorem checkLensRange_iff (a : LensAxis) (spacing : Nat) (entries : Vector Nat 17) :
    checkLensRange (some a) spacing entries = true ↔
      256 ≤ spacing ∧ spacing ≤ 65535 ∧ ∀ i : Fin 17, entries[i] ≤ 65535 := by
  simp [checkLensRange, within, and_assoc, Fin.forall_iff]

theorem checkLensOrder_iff (entries : Vector Nat 17) :
    checkLensOrder entries = true ↔ entries[0] = 0 ∧ ∀ i : Fin 16, entries[i.val] ≤ entries[i.val + 1] := by
  have hfirst : (entries.toList.head? == some 0) = true ↔ entries[0] = 0 := by simp [List.head?_eq_getElem?]
  have hrises : nonDecreasing entries.toList = true ↔ ∀ i : Fin 16, entries[i.val] ≤ entries[i.val + 1] := by
    rw [nonDecreasing_iff_isChain, List.isChain_iff_getElem]
    simp only [Vector.length_toList, Vector.getElem_toList]
    exact ⟨fun h i => h i (by omega), fun h i hi => h ⟨i, by omega⟩⟩
  rw [checkLensOrder, Bool.and_eq_true, hfirst, hrises]

theorem checkGeometry_iff (g : Geometry) :
    checkGeometry g = true ↔ 64 ≤ g.sensorW ∧ g.sensorW ≤ 8192 ∧ g.sensorW % 2 = 0 ∧ 16 ≤ g.sensorH ∧
      g.sensorH ≤ 8192 ∧ g.sensorH % 2 = 0 ∧ 64 ≤ g.w ∧ g.w ≤ g.sensorW ∧ (g.sensorW - g.w) % 2 = 0 ∧ 16 ≤ g.h ∧
      g.h ≤ g.sensorH ∧ (g.sensorH - g.h) % 2 = 0 ∧ 1 ≤ g.bands ∧ g.bands ≤ 16 ∧ g.h % g.bands = 0 ∧
      20 ≤ g.watchMs ∧ g.watchMs ≤ 2550 := by
  simp only [checkGeometry, within, Bool.and_eq_true, decide_eq_true_eq, beq_iff_eq, and_assoc]

/-! ### The three requests -/

theorem exec_motionSetup_of_none {s : State} (htakes : s.Takes) (tag : Byte) {a : MotionArgs}
    (h : checkMotion a = none) : exec (.motionSetup tag a) s = .next (s.replied tag .badArg .none) := by
  show execMotionSetup tag a s = _
  rw [execMotionSetup, State.request_of_takes htakes, h]
  exact congrArg _ (State.owing_answer htakes.1 tag .badArg)

theorem exec_motionSetup_of_some {s : State} (htakes : s.Takes) (tag : Byte) {a : MotionArgs} {m : MotionSetup}
    (h : checkMotion a = some m) :
    exec (.motionSetup tag a) s =
      .next (({ s with path.intake.pending := some m } : State).owing.swapIfIdle.answer tag .ok) := by
  show execMotionSetup tag a s = _
  rw [execMotionSetup, State.request_of_takes htakes, h]; rfl

theorem exec_lensTable_badArg {s : State} (htakes : s.Takes) (tag : Byte) {axis : Option LensAxis} {spacing : Nat}
    {entries : Vector Nat 17} (h : checkLensRange axis spacing entries = false) :
    exec (.lensTable tag axis spacing entries) s = .next (s.replied tag .badArg .none) := by
  show execLensTable tag axis spacing entries s = _
  rw [execLensTable, State.request_of_takes htakes, ← State.owing_answer htakes.1]
  rcases axis with _ | a
  · rfl
  · simp [h]

theorem exec_lensTable_tableOrder {s : State} (htakes : s.Takes) (tag : Byte) {a : LensAxis} {spacing : Nat}
    {entries : Vector Nat 17} (hrange : checkLensRange (some a) spacing entries = true)
    (horder : checkLensOrder entries = false) :
    exec (.lensTable tag (some a) spacing entries) s = .next (s.replied tag .tableOrder .none) := by
  show execLensTable tag (some a) spacing entries s = _
  rw [execLensTable, State.request_of_takes htakes, ← State.owing_answer htakes.1]
  simp [hrange, horder]

theorem exec_lensTable_taken {s : State} (htakes : s.Takes) (tag : Byte) {a : LensAxis} {spacing : Nat}
    {entries : Vector Nat 17} (hrange : checkLensRange (some a) spacing entries = true)
    (horder : checkLensOrder entries = true) :
    exec (.lensTable tag (some a) spacing entries) s =
      .next ((s.onEngine fun e => e.setPending a ⟨spacing, entries⟩).owing.swapIfIdle.answer tag .ok) := by
  show execLensTable tag (some a) spacing entries s = _
  rw [execLensTable, State.request_of_takes htakes]
  simp only [hrange, horder]; rfl

theorem exec_loadGeometry_badArg {s : State} (htakes : s.Takes) (tag : Byte) {g : Geometry}
    (h : checkGeometry g = false) : exec (.loadGeometry tag g) s = .next (s.replied tag .badArg .none) := by
  show execLoadGeometry tag g s = _
  rw [execLoadGeometry, State.request_of_takes htakes, ← State.owing_answer htakes.1, h]; rfl

theorem exec_loadGeometry_badState {s : State} (htakes : s.Takes) (tag : Byte) {g : Geometry}
    (h : checkGeometry g = true) (hbusy : s.clipBusy = true) :
    exec (.loadGeometry tag g) s = .next (s.replied tag .badState .none) := by
  show execLoadGeometry tag g s = _
  rw [execLoadGeometry, State.request_of_takes htakes, ← State.owing_answer htakes.1, h,
    show s.owing.clipBusy = s.clipBusy from rfl, hbusy]
  rfl

theorem exec_loadGeometry_taken {s : State} (htakes : s.Takes) (tag : Byte) {g : Geometry}
    (h : checkGeometry g = true) (hbusy : s.clipBusy = false) :
    exec (.loadGeometry tag g) s =
      .next (({ s with path.window.pending := some g } : State).owing.swapIfIdle.answer tag .ok) := by
  show execLoadGeometry tag g s = _
  rw [execLoadGeometry, State.request_of_takes htakes, h, show s.owing.clipBusy = s.clipBusy from rfl, hbusy]
  rfl

/-! ### The statement, request by request -/

/-- Settles O26: each request by its check, and the setting it takes by State.exec_of_setting_taken. -/
theorem settingsBecomePending : Obligations.SettingsBecomePending := by
  refine ⟨fun s tag a htakes => ⟨fun h => exec_motionSetup_of_none htakes tag (checkMotion_of_unnamed h), ?_⟩,
    fun s tag axis spacing entries htakes => ?_, fun s tag g htakes => ?_⟩
  · intro enable order ax ay az sx sy sz henable horder haxes hsigns good
    have hcheck := checkMotion_of_named henable horder haxes hsigns
    refine ⟨fun hbad => exec_motionSetup_of_none htakes tag (hcheck.trans (if_neg hbad)), fun hgood => ?_⟩
    have htaken := exec_motionSetup_of_some htakes tag (hcheck.trans (if_pos hgood))
    have hswap := State.exec_of_setting_taken htaken htakes.1
    exact hswap
  · intro good rises
    refine ⟨fun hbad => exec_lensTable_badArg htakes tag ?_, ?_⟩
    · rcases axis with _ | a
      · rfl
      · exact Bool.eq_false_iff.mpr
          (mt (checkLensRange_iff a spacing entries).mp (hbad.resolve_left (Option.some_ne_none a)))
    · rintro a rfl hgood
      have hrange := (checkLensRange_iff a spacing entries).mpr hgood
      refine ⟨fun hfalls => ?_, fun hrises => ?_⟩
      · exact exec_lensTable_tableOrder htakes tag hrange
          (Bool.eq_false_iff.mpr (mt (checkLensOrder_iff entries).mp hfalls))
      · have htaken := exec_lensTable_taken htakes tag hrange ((checkLensOrder_iff entries).mpr hrises)
        have hswap := State.exec_of_setting_taken htaken htakes.1
        cases a <;> exact hswap
  · intro good busy
    refine ⟨fun hbad => ?_, fun hgood hbusy => ?_, fun hgood hfree => ?_⟩
    · exact exec_loadGeometry_badArg htakes tag (Bool.eq_false_iff.mpr (mt (checkGeometry_iff g).mp hbad))
    · exact exec_loadGeometry_badState htakes tag ((checkGeometry_iff g).mpr hgood) (s.clipBusy_iff.mpr hbusy)
    · have htaken := exec_loadGeometry_taken htakes tag ((checkGeometry_iff g).mpr hgood)
        (Bool.eq_false_iff.mpr (mt s.clipBusy_iff.mp hfree))
      have hswap := State.exec_of_setting_taken htaken htakes.1
      exact hswap

end Sys2Proof.Machine
end

section
/-! PROOFS. FRAME_START_UNIT (03, R39, R42, R43): a frame start that finds no geometry, and one that begins a frame. -/

namespace Sys2Proof.Machine

namespace State

/-- The state in which a frame start looks for its geometry: swapped first where none is active (R39). -/
def startState (s : State) : State := if s.path.window.geometry = none then s.swap else s

theorem startState_eq (s : State) : (if s.path.window.geometry.isNone then s.swap else s) = s.startState :=
  if_congr Option.isNone_iff_eq_none rfl rfl

/-- What a frame start keeps on its way to the new frame: the time, the pixel path state and the frame counter. -/
theorem startState_closed_frame (s : State) :
    s.startState.closeShort.swap.now = s.now ∧
    s.startState.closeShort.swap.path.window.path = s.path.window.path ∧
    s.startState.closeShort.swap.path.window.frameCounter = s.path.window.frameCounter := by
  unfold startState; split <;> simp

theorem numberedStart_of_geometry {s : State} {g : Geometry}
    (h : s.closeShort.swap.path.window.geometry = some g) : s.numberedStart = s.closeShort.swap.beginFrame g := by
  simp [numberedStart, h]

/-- A frame begun, in full, with the engine as the frame start leaves it (steps 4 to 9 of R42): the header joins the
frame stream, and the arbiter chooses last. -/
theorem beginFrame_eq (u : State) {g : Geometry} {e : Engine}
    (he : u.path.engine.frameStart g (u.path.intake.stale u.now) = e) :
    u.beginFrame g = State.chooseUnit
      { u with
        path.intake.framePeak := if u.path.window.path = .idle then u.path.intake.idlePeak else 0
        path.intake.idlePeak := 0
        path.engine := e
        path.window.frameCounter := u.path.window.frameCounter + 1
        path.window.lastBegun := some u.path.window.frameCounter
        path.window.frame := some
          ⟨u.path.window.frameCounter, u.now, g, (e.column g).1, (e.row g).1,
            (Vector.replicate 16 0).set 0 (e.column g).1, 0, 0, false, e.shake⟩
        path.window.watch := some (watchFrom u.now g)
        path.window.path := .inFrame
        path.window.discardMarker := false
        path.link.stream := u.path.link.stream ++
          [.header ⟨u.path.window.frameCounter, u.now, (e.column g).1, (e.row g).1, g.w, g.h, u.path.window.generation,
            g.bands⟩] } := by
  subst he; rfl

end State

/-- FRAME_START_UNIT: a discarded frame, or the next frame, as the geometry is found absent or present (R39, R42). -/
theorem exec_frameStartUnit {s : State} (hup : s.pathUp = true) :
    exec .frameStartUnit s = .next
      (if s.startState.path.window.geometry = none then
        s.startState.onWindow fun w => { w with unsetFrames := satAdd w.unsetFrames 1, discardMarker := true }
      else s.startState.numberedStart) := by
  show execFrameStartUnit s = _
  rw [execFrameStartUnit, State.whenUp_of_pathUp hup]
  simp only [State.startState_eq]
  rw [if_congr Option.isNone_iff_eq_none rfl rfl]

theorem bne_running (state : IntakeState) : (state != .running) = decide (state ≠ .running) := by
  cases state <;> rfl

/-- Settles O33: without a geometry the unit is counted as discarded; with one, the frame begins in the state that the
closing and the swap leave, whose time, pixel path state and frame counter are those of the unit's arrival. -/
theorem frameStartBeginsTheNextFrame : Obligations.FrameStartBeginsTheNextFrame := by
  intro s hup
  refine ⟨fun hunset hstill => ?_, fun g => ?_⟩
  · have hstart : s.startState = s.swap := if_pos hunset
    obtain ⟨_, _, hframes⟩ := s.swap_window
    rw [exec_frameStartUnit hup, hstart, if_pos hstill, ← hframes]
    rfl
  · intro u hg hfound i stale e
    have hactive : s.startState.path.window.geometry ≠ none := by
      unfold State.startState; split
      · exact hfound ‹_›
      · assumption
    have hbegin : s.startState.numberedStart = u.beginFrame g := State.numberedStart_of_geometry hg
    obtain ⟨hnow, hpath, hcounter⟩ : u.now = s.now ∧ u.path.window.path = s.path.window.path ∧
        u.path.window.frameCounter = s.path.window.frameCounter := s.startState_closed_frame
    have hstale : u.path.intake.stale u.now = stale := by
      rw [hnow, Intake.stale, bne_running]; rfl
    have hengine : u.path.engine.frameStart g (u.path.intake.stale u.now) = e := by rw [hstale]
    rw [exec_frameStartUnit hup, if_neg hactive, hbegin, u.beginFrame_eq hengine, hnow, hpath, hcounter]
    rfl

end Sys2Proof.Machine
end

section
/-! PROOFS. The steadying computation (02): the increment, an integration and the lens mapping, each in closed form. -/

namespace Sys2Proof.Machine

/-! ### Integration (R17 to R20) -/

/-- The increment and the new carry are quotient and remainder by 16,000,000 (R18). -/
theorem increment_eq (g c : Int) (k dt : Nat) :
    increment g k dt c = ((g * k * dt + c) / 16000000, (g * k * dt + c) % 16000000) := by
  have hfloor : (g * k * dt + c).fdiv 16000000 = (g * k * dt + c) / 16000000 :=
    Int.fdiv_eq_ediv_of_nonneg _ (by decide)
  simp only [increment, Config.carryUnit, hfloor, Prod.mk.injEq, true_and]
  omega

theorem increment_carry_bounds (g c : Int) (k dt : Nat) :
    0 ≤ (increment g k dt c).2 ∧ (increment g k dt c).2 ≤ 15999999 := by
  rw [increment_eq]
  constructor <;> dsimp only <;> omega

/-- What a sample passes on and what it keeps back are together what it brought and what was kept back before. -/
theorem increment_exact (g c : Int) (k dt : Nat) :
    (increment g k dt c).1 * 16000000 + (increment g k dt c).2 = g * k * dt + c := by
  rw [increment_eq]
  exact Int.ediv_mul_add_emod _ _

/-- A run of samples passes on the exact sum, but for the last carry (R18). -/
theorem runIncrements_exact (k : Nat) (samples : List (Int × Nat)) (c : Int) :
    (runIncrements k samples c).1 * 16000000 + (runIncrements k samples c).2 =
      (samples.map fun x => x.1 * (k : Int) * (x.2 : Int)).sum + c := by
  induction samples generalizing c with
  | nil => simp [runIncrements]
  | cons x rest ih =>
    have hfirst := increment_exact x.1 c k x.2
    have hrest := ih (increment x.1 k x.2 c).2
    simp only [runIncrements, List.map_cons, List.sum_cons]
    linarith

/-- Settles O28: quotient and remainder, and their sum over the run by induction on the samples. -/
theorem incrementIsExact : Obligations.IncrementIsExact := by
  refine ⟨fun g c k dt => ⟨increment_eq g c k dt, increment_carry_bounds g c k dt⟩, runIncrements_exact, ?_, ?_, ?_, ?_⟩
  · intro k a limit dt g shake c; rfl
  · intro e limit; rfl
  · intro e; rfl
  · intro s cause; rfl

theorem heldWithin_bounds (v : Int) (limit : Nat) :
    -(limit : Int) ≤ heldWithin v limit ∧ heldWithin v limit ≤ limit := by
  unfold heldWithin; omega

theorem heldWithin_ne_iff (v : Int) (limit : Nat) : heldWithin v limit ≠ v ↔ limit < v.natAbs := by
  unfold heldWithin; omega

/-- An axis after a sample: the sum of R20 held within the limit, the carry of R18, and whether the clamp applied. -/
theorem integrateAxis_eq (k a limit : Nat) (g : Int) (dt : Nat) (shake carry : Int) :
    integrateAxis k a limit g dt shake carry =
      (heldWithin (axisSum k a limit g dt shake carry) limit, (g * k * dt + carry) % 16000000,
        decide (limit < (axisSum k a limit g dt shake carry).natAbs)) := by
  have hsum : shake + (increment g k dt carry).1 - leakOf shake (effectiveLeak a limit shake) dt =
      axisSum k a limit g dt shake carry := by
    rw [increment_eq]; rfl
  have hclamp : ∀ v : Int, clamp v (-limit) limit = heldWithin v limit := fun v => clamp_eq_max_min v _ _ (by omega)
  simp only [integrateAxis, hsum, hclamp, heldWithin_ne_iff]
  rw [increment_eq]

/-- The three axes of a sample, and EDGE where any clamp applied (R17, R20). -/
theorem Engine.integrate_eq (e : Engine) (m : MotionSetup) (g : PerAxis Int) (dt : Nat) {y p r : Int}
    (hy : axisSum m.rate.yaw m.leak.yaw m.limit.yaw g.yaw dt e.shake.yaw e.carry.yaw = y)
    (hp : axisSum m.rate.pitch m.leak.pitch m.limit.pitch g.pitch dt e.shake.pitch e.carry.pitch = p)
    (hr : axisSum m.rate.roll m.leak.roll m.limit.roll g.roll dt e.shake.roll e.carry.roll = r) :
    e.integrate m g dt =
      { e with
        shake := ⟨heldWithin y m.limit.yaw, heldWithin p m.limit.pitch, heldWithin r m.limit.roll⟩
        carry :=
          ⟨(g.yaw * m.rate.yaw * dt + e.carry.yaw) % 16000000, (g.pitch * m.rate.pitch * dt + e.carry.pitch) % 16000000,
            (g.roll * m.rate.roll * dt + e.carry.roll) % 16000000⟩
        flags.edge := e.flags.edge ||
          decide (m.limit.yaw < y.natAbs ∨ m.limit.pitch < p.natAbs ∨ m.limit.roll < r.natAbs) } := by
  simp only [Engine.integrate, integrateAxis_eq, hy, hp, hr, FrameFlags.addEdge, Bool.decide_or, Bool.or_assoc]

theorem exec_sampleIntegration_of_not_due {s : State} (hup : s.pathUp = true)
    (hdue : s.path.intake.integrationDue = false) : exec .sampleIntegration s = .next s := by
  show execSampleIntegration s = _
  rw [execSampleIntegration, State.whenUp_of_pathUp hup, hdue]

theorem exec_sampleIntegration_of_due {s : State} {stamp : Time} {dt sum : Nat} {g : PerAxis Int}
    (hup : s.pathUp = true) (hdue : s.path.intake.integrationDue = true)
    (hlast : s.path.intake.lastSample = some ⟨stamp, some dt, g, sum⟩) :
    exec .sampleIntegration s = .next
      ((s.onEngine fun e => e.integrate s.path.intake.active g dt).onIntake fun i =>
        { i with integrationDue := false }) := by
  show execSampleIntegration s = _
  rw [execSampleIntegration, State.whenUp_of_pathUp hup, hdue, hlast]

/-- Settles O29, by the closed form of the engine's integration. -/
theorem sampleIsIntegrated : Obligations.SampleIsIntegrated := by
  intro s hup
  refine ⟨exec_sampleIntegration_of_not_due hup, fun stamp dt sum g hdue hlast => ?_⟩
  intro m e y p r
  rw [exec_sampleIntegration_of_due hup hdue hlast, State.onEngine, State.onIntake,
    Engine.integrate_eq e m g dt rfl rfl rfl]

/-! ### Lens mapping (R25) -/

namespace LensTable

/-- An entry of the table by its number. -/
theorem entries_getD (t : LensTable) (k : Fin 17) : t.entries.toList.getD k 0 = t.entries[k] := by
  simp [List.getD_eq_getElem?_getD]

theorem sixteenths_beyond (t : LensTable) (hD : 0 < t.spacing) {n : Nat} (h : 16 * t.spacing ≤ n) :
    t.sixteenths n = t.entries[16] := by
  have hk : 16 ≤ n / t.spacing := (Nat.le_div_iff_mul_le hD).mpr h
  simp only [sixteenths, if_pos hk]
  exact t.entries_getD 16

theorem sixteenths_between (t : LensTable) (k : Fin 16) {j : Nat} (hj : j < t.spacing) :
    t.sixteenths (k * t.spacing + j) =
      t.entries[k.val] + (t.entries[k.val + 1] - t.entries[k.val]) * j / t.spacing := by
  have hD : 0 < t.spacing := by omega
  have hdiv : (k * t.spacing + j) / t.spacing = k := by
    rw [Nat.add_comm, Nat.add_mul_div_right _ _ hD, Nat.div_eq_of_lt hj, Nat.zero_add]
  have hmod : (k * t.spacing + j) % t.spacing = j := by
    rw [Nat.add_comm, Nat.add_mul_mod_self_right, Nat.mod_eq_of_lt hj]
  have hlow := t.entries_getD k.castSucc
  have hhigh := t.entries_getD k.succ
  simp only [Fin.val_castSucc, Fin.val_succ, Fin.getElem_fin] at hlow hhigh
  simp only [sixteenths, hdiv, hmod, if_neg (Nat.not_le.mpr k.isLt), hlow, hhigh]

/-- A magnitude lies at or beyond the last entry, or between two neighbouring ones. -/
theorem magnitude_cases (t : LensTable) (hD : 0 < t.spacing) (n : Nat) :
    16 * t.spacing ≤ n ∨ ∃ (k : Fin 16) (j : Nat), j < t.spacing ∧ n = k * t.spacing + j := by
  rcases Nat.lt_or_ge n (16 * t.spacing) with h | h
  · refine .inr ⟨⟨n / t.spacing, Nat.div_lt_of_lt_mul (by rwa [Nat.mul_comm])⟩, n % t.spacing, Nat.mod_lt _ hD, ?_⟩
    rw [Nat.mul_comm]; exact (Nat.div_add_mod n t.spacing).symm
  · exact .inl h

section
variable {t : LensTable} (hrises : nonDecreasing t.entries.toList = true)
include hrises

theorem entries_le_succ (k : Fin 16) : t.entries[k.val] ≤ t.entries[k.val + 1] := by
  have hchain := (nonDecreasing_iff_isChain _).mp hrises
  rw [List.isChain_iff_getElem] at hchain
  have hnext := hchain k.val (by rw [Vector.length_toList]; omega)
  rwa [Vector.getElem_toList, Vector.getElem_toList] at hnext

/-- The mapping does not fall from one magnitude to the next: between two entries the slope is not negative, at an entry
the values agree, and beyond the last one they stand. -/
theorem sixteenths_le_succ (hD : 0 < t.spacing) (n : Nat) : t.sixteenths n ≤ t.sixteenths (n + 1) := by
  rcases t.magnitude_cases hD n with h | ⟨k, j, hj, rfl⟩
  · rw [t.sixteenths_beyond hD h, t.sixteenths_beyond hD (h.trans (Nat.le_succ n))]
  · have hle := entries_le_succ hrises k
    rw [t.sixteenths_between k hj]
    rcases Nat.lt_or_ge (j + 1) t.spacing with hnext | hlast
    · rw [Nat.add_assoc, t.sixteenths_between k hnext]
      exact Nat.add_le_add_left (Nat.div_le_div_right (Nat.mul_le_mul_left _ (Nat.le_succ j))) _
    · have hbelow : t.entries[k.val] + (t.entries[k.val + 1] - t.entries[k.val]) * j / t.spacing ≤
          t.entries[k.val + 1] := by
        have := Nat.div_le_of_le_mul (m := (t.entries[k.val + 1] - t.entries[k.val]) * j) (k := t.spacing)
          (n := t.entries[k.val + 1] - t.entries[k.val]) (by rw [Nat.mul_comm]; exact Nat.mul_le_mul_right _ hj.le)
        omega
      have hstep : k * t.spacing + j + 1 = (k.val + 1) * t.spacing := by
        rw [Nat.add_mul]; omega
      refine hbelow.trans_eq ?_
      rw [hstep]
      rcases Nat.lt_or_ge (k.val + 1) 16 with hk | hk
      · simpa using (t.sixteenths_between ⟨k.val + 1, hk⟩ hD).symm
      · have hk16 : k.val + 1 = 16 := by omega
        simp only [hk16]
        exact (t.sixteenths_beyond hD (le_refl _)).symm

theorem sixteenths_mono (hD : 0 < t.spacing) : Monotone t.sixteenths :=
  monotone_nat_of_le_succ (sixteenths_le_succ hrises hD)

/-- No value is above the last entry. -/
theorem sixteenths_le_last (hD : 0 < t.spacing) (n : Nat) : t.sixteenths n ≤ t.entries[16] := by
  have hreach : 16 * t.spacing ≤ n + 16 * t.spacing := Nat.le_add_left _ _
  rw [← t.sixteenths_beyond hD hreach]
  exact sixteenths_mono hrises hD (Nat.le_add_right _ _)

end

/-- The displacement of a magnitude, in whole pixels. -/
def pixels (t : LensTable) (magnitude : Nat) : Nat := (t.sixteenths magnitude + 8) / 16

theorem displacement_of_pos (t : LensTable) {s : Int} (h : 0 < s) : t.displacement s = t.pixels s.natAbs := if_pos h

theorem displacement_zero (t : LensTable) : t.displacement 0 = 0 := rfl

theorem displacement_neg (t : LensTable) (s : Int) : t.displacement (-s) = -t.displacement s := by
  simp only [displacement, Int.natAbs_neg]
  rcases lt_trichotomy s 0 with h | rfl | h
  · rw [if_pos (by omega), if_neg (by omega), if_pos h, neg_neg]
  · rfl
  · rw [if_neg (by omega), if_pos (by omega), if_pos h]

theorem natAbs_displacement_le (t : LensTable) (s : Int) : (t.displacement s).natAbs ≤ t.pixels s.natAbs := by
  unfold displacement pixels; dsimp only; split
  · rw [Int.natAbs_natCast]
  · split
    · rw [Int.natAbs_neg, Int.natAbs_natCast]
    · exact Nat.zero_le _

end LensTable

/-- Settles O30: the mapping between and beyond the entries, its sign cases, and its monotony from one magnitude to the
next. -/
theorem lensMappingIsOddAndMonotone : Obligations.LensMappingIsOddAndMonotone := by
  intro t hD hrises
  refine ⟨fun n h => t.sixteenths_beyond hD h, fun k j hj => t.sixteenths_between k hj,
    fun s h => t.displacement_of_pos h, t.displacement_zero, t.displacement_neg, fun a b hab => ?_, fun hrange s => ?_⟩
  · have hpixels : t.pixels a ≤ t.pixels b :=
      Nat.div_le_div_right (Nat.add_le_add_right (LensTable.sixteenths_mono hrises hD hab) 8)
    rcases Nat.eq_zero_or_pos a with rfl | ha
    · rcases Nat.eq_zero_or_pos b with rfl | hb
      · exact le_refl _
      · rw [t.displacement_of_pos (Int.natCast_pos.mpr hb)]; exact Int.natCast_nonneg _
    · rw [t.displacement_of_pos (Int.natCast_pos.mpr ha), t.displacement_of_pos (Int.natCast_pos.mpr (by omega))]
      exact Int.ofNat_le.mpr hpixels
  · have hlast : t.entries[16] ≤ 65535 := hrange _ (by simp)
    have hvalue := LensTable.sixteenths_le_last hrises hD s.natAbs
    calc (t.displacement s).natAbs ≤ (t.sixteenths s.natAbs + 8) / 16 := t.natAbs_displacement_le s
      _ ≤ 4096 := by omega

end Sys2Proof.Machine
end

section
/-! PROOFS. Positions, the engine at a frame start and at a band start, and STEADY MODE and RECENTER (02). -/

namespace Sys2Proof.Machine

/-! ### Positions and staleness (R26, R27, R29) -/

/-- A coordinate is the margin less the displacement, held inside the sensor. -/
theorem place_fst (margin : Nat) (d : Int) :
    ((place margin d).1 : Int) = max 0 (min (2 * (margin : Int)) ((margin : Int) - d)) := by
  simp only [place, clamp_eq_max_min _ 0 (2 * (margin : Int)) (by omega)]
  omega

/-- The clamp changes a coordinate exactly where the displacement is greater than the margin. -/
theorem place_snd (margin : Nat) (d : Int) : (place margin d).2 = decide (margin < d.natAbs) := by
  simp only [place, clamp_eq_max_min _ 0 (2 * (margin : Int)) (by omega), decide_eq_decide]
  omega

theorem place_le (margin : Nat) (d : Int) : (place margin d).1 ≤ 2 * margin := by
  have := place_fst margin d
  omega

namespace Engine
variable {e : Engine} (g : Geometry)

theorem column_of_off (h : e.mode = .off) : e.column g = (marginX g, false) := by simp [column, h]

theorem column_of_on (h : e.mode = .on) :
    e.column g = place (marginX g) (displacementThrough e.lensH e.shake.yaw) := by simp [column, h]

theorem row_of_off (h : e.mode = .off) : e.row g = (marginY g, false) := by simp [row, h]

theorem row_of_on (h : e.mode = .on) : e.row g = place (marginY g) (displacementThrough e.lensV e.shake.pitch) := by
  simp [row, h]

/-- EDGE of a column: in ON mode alone, where the displacement is greater than the margin. -/
theorem column_snd (e : Engine) (g : Geometry) :
    (e.column g).2 = decide (e.mode = .on ∧ marginX g < (displacementThrough e.lensH e.shake.yaw).natAbs) := by
  rcases h : e.mode with _ | _
  · simp [column_of_off g h]
  · simp [column_of_on g h, place_snd]

/-- The engine at a frame start once recentre and mode request are done: steps 1 and 2 of R34. -/
def settled (e : Engine) : Engine :=
  { e with
    shake := if e.recentrePending then ⟨0, 0, 0⟩ else e.shake
    carry := if e.recentrePending then ⟨0, 0, 0⟩ else e.carry
    recentrePending := false
    mode := e.modeRequest.getD e.mode
    modeRequest := none }

/-- A frame start settles the engine, and then adds flags alone, by the positions of the settled engine (R34). -/
theorem frameStart_eq (e : Engine) (g : Geometry) (stale : Bool) :
    e.frameStart g stale =
      { e.settled with
        flags := ((e.flags.addStale stale).addEdge ((e.settled.column g).2 || (e.settled.row g).2)).addBypass
          (decide (e.settled.mode = .off)) } := by
  obtain ⟨shake, carry, lensH, lensV, pendingH, pendingV, mode, request, recentre, flags⟩ := e
  cases recentre <;> rfl

/-- A band start adds flags alone (R27, R29). -/
theorem bandStart_eq (e : Engine) (g : Geometry) (stale : Bool) :
    e.bandStart g stale =
      { e with
        flags.stale := e.flags.stale || stale
        flags.edge := e.flags.edge ||
          decide (e.mode = .on ∧ marginX g < (displacementThrough e.lensH e.shake.yaw).natAbs) } := by
  rw [← column_snd]; rfl

end Engine

theorem Intake.stale_eq_false_iff (i : Intake) (at_ : Time) :
    i.stale at_ = false ↔ i.state = .running ∧ ∃ x, i.lastSample = some x ∧ (at_ - x.stamp).toNat ≤ 4000 := by
  rcases hlast : i.lastSample with _ | x
  · simp [Intake.stale, hlast]
  · simp only [Intake.stale, hlast, Bool.or_eq_false_iff, bne_eq_false_iff_eq, decide_eq_false_iff_not, Nat.not_lt,
      Option.some.injEq, exists_eq_left']
    rfl

/-- Settles O32: the frame start reads its positions off the settled engine, whose mode decides which they are. -/
theorem frameStartPlacesTheWindow : Obligations.FrameStartPlacesTheWindow := by
  refine ⟨fun e g stale => ?_, Intake.stale_eq_false_iff⟩
  intro f mx my
  have hf : f = _ := e.frameStart_eq g stale
  have hcolumn : f.column g = e.settled.column g := by rw [hf]; rfl
  have hrow : f.row g = e.settled.row g := by rw [hf]; rfl
  have hedge : f.flags.edge = (e.flags.edge || ((f.column g).2 || (f.row g).2)) := by rw [hcolumn, hrow, hf]; rfl
  refine ⟨by rw [hf]; rfl, by rw [hf]; rfl, by rw [hf]; rfl, by rw [hf]; rfl, by rw [hf]; rfl, by rw [hf]; rfl,
    by rw [hf]; rfl, by rw [hf]; rfl, by rw [hf]; rfl, by rw [hf]; rfl, by rw [hf]; rfl, by rw [hf]; rfl,
    by rw [hf]; rfl, by rw [hf]; rfl, fun hoff => ?_, fun hon => ?_, e.bandStart_eq g stale⟩
  · rw [hedge, Engine.column_of_off g hoff, Engine.row_of_off g hoff]
    exact ⟨rfl, rfl, by simp⟩
  · rw [hedge, Engine.column_of_on g hon, Engine.row_of_on g hon, place_snd, place_snd, Bool.decide_or]
    exact ⟨place_fst _ _, place_fst _ _, rfl⟩

/-! ### STEADY MODE and RECENTER (R32, R33, R35) -/

theorem exec_steadyMode_none {s : State} (htakes : s.Takes) (tag : Byte) :
    exec (.steadyMode tag none) s = .next (s.replied tag .badArg .none) := by
  show execSteadyMode tag none s = _
  rw [execSteadyMode, State.request_of_takes htakes, ← State.owing_answer htakes.1]

theorem State.canSteady_eq_false_iff (s : State) :
    s.canSteady = false ↔ s.path.window.geometry = none ∨ s.path.engine.lensH = none ∨ s.path.engine.lensV = none := by
  simp only [State.canSteady, Bool.and_eq_false_iff, Option.isSome_eq_false_iff, Option.isNone_iff_eq_none, or_assoc]

/-- OFF, and ON with the geometry and both tables, are not refused (R32). -/
theorem State.not_on_unsteady (s : State) {m : Mode}
    (h : m = .off ∨ (s.path.window.geometry.isSome = true ∧ s.path.engine.lensH.isSome = true ∧
      s.path.engine.lensV.isSome = true)) : ¬(m = .on ∧ s.canSteady = false) := by
  rintro ⟨rfl, hcannot⟩
  obtain hoff | ⟨hgeometry, hH, hV⟩ := h
  · cases hoff
  · simp [State.canSteady, hgeometry, hH, hV] at hcannot

/-- STEADY MODE with a mode named: ON refused without geometry and tables, and otherwise taken at once while IDLE or
left as a request. -/
theorem exec_steadyMode_some {s : State} (htakes : s.Takes) (tag : Byte) (m : Mode) :
    exec (.steadyMode tag (some m)) s = .next
      (if m = .on ∧ s.canSteady = false then s.replied tag .badState .none
      else if s.path.window.path = .idle then
        ({ s with path.engine.mode := m, path.engine.modeRequest := none } : State).replied tag .ok .none
      else ({ s with path.engine.modeRequest := some m } : State).replied tag .ok .none) := by
  show execSteadyMode tag (some m) s = _
  rw [execSteadyMode, State.request_of_takes htakes, ← State.owing_answer htakes.1,
    ← State.owing_answer (s := { s with path.engine.mode := m, path.engine.modeRequest := none }) htakes.1,
    ← State.owing_answer (s := { s with path.engine.modeRequest := some m }) htakes.1]
  rfl

theorem exec_recenter {s : State} (htakes : s.Takes) (tag : Byte) :
    exec (.recenter tag) s = .next
      (if s.path.window.path = .idle then (s.onEngine Engine.recentre).replied tag .ok .none
      else ({ s with path.engine.recentrePending := true } : State).replied tag .ok .none) := by
  show execRecenter tag s = _
  rw [execRecenter, State.request_of_takes htakes, ← State.owing_answer (s := s.onEngine Engine.recentre) htakes.1,
    ← State.owing_answer (s := { s with path.engine.recentrePending := true }) htakes.1]
  rfl

/-- Settles O31, by the cases of each request. -/
theorem steadyModeAndRecenter : Obligations.SteadyModeAndRecenter := by
  intro s tag htakes
  refine ⟨exec_steadyMode_none htakes tag, fun hmissing => ?_, fun m hm => ⟨fun hidle => ?_, fun hbusy => ?_⟩,
    fun hidle => ?_, fun hbusy => ?_⟩
  · rw [exec_steadyMode_some htakes, if_pos ⟨rfl, s.canSteady_eq_false_iff.mpr hmissing⟩]
  · rw [exec_steadyMode_some htakes, if_neg (s.not_on_unsteady hm), if_pos hidle]
  · rw [exec_steadyMode_some htakes, if_neg (s.not_on_unsteady hm), if_neg hbusy]
  · rw [exec_recenter htakes, if_pos hidle]; rfl
  · rw [exec_recenter htakes, if_neg hbusy]

end Sys2Proof.Machine
end

section
/-! PROOFS. LINE_UNIT (03, R38, R39, R45 to R48): orphans, rows outside the window, and rows that pass through it. -/

namespace Sys2Proof.Machine

/-- The start column in closed form: the margin in OFF mode, otherwise held inside the sensor (R26, R27). -/
theorem Engine.column_fst (e : Engine) (g : Geometry) :
    (e.column g).1 = if e.mode = .off then marginX g else
      (max 0 (min (2 * (marginX g : Int)) ((marginX g : Int) - displacementThrough e.lensH e.shake.yaw))).toNat := by
  rcases h : e.mode with _ | _
  · rw [column_of_off g h, if_pos rfl]
  · rw [column_of_on g h, if_neg (by decide), ← place_fst, Int.toNat_natCast]

theorem Intake.stale_eq (i : Intake) (at_ : Time) :
    i.stale at_ = (decide (i.state ≠ .running) || (match i.lastSample with
      | none => true
      | some x => decide (4000 < (at_ - x.stamp).toNat))) := by
  rw [Intake.stale, bne_running]
  rfl

namespace State

/-- The first row of a band other than the first, whose column was entered at the frame start (R46). -/
abbrev StartsBand (f : OpenFrame) (i : Nat) : Prop := i % bandHeight f.geometry = 0 ∧ 1 ≤ i / bandHeight f.geometry

/-- The open frame once row i of its window has begun: a row more, and at a band's first row the band's column. -/
def rowBegun (s : State) (f : OpenFrame) (i : Nat) : OpenFrame :=
  { f with
    rows := satAdd f.rows 1
    bands := if StartsBand f i then
        f.bands.setIfInBounds (i / bandHeight f.geometry) (s.path.engine.column f.geometry).1
      else f.bands }

theorem frameLine_outside (s : State) {f : OpenFrame} (g : Geometry) (pixels : List Pixel)
    (h : f.rows < f.y0 ∨ f.y0 + f.geometry.h ≤ f.rows) :
    s.frameLine f g pixels = s.onWindow fun w =>
      { w with frame := some { f with rows := satAdd f.rows 1 }, watch := some (watchFrom s.now g) } :=
  if_pos h

/-- A row inside the window: the watch restarts, a band's first row has the engine judge the shake and clamp the column,
and the line passes. -/
theorem frameLine_inside (s : State) {f : OpenFrame} (g : Geometry) (pixels : List Pixel) {i : Nat}
    (hi : f.rows - f.y0 = i) (h : ¬(f.rows < f.y0 ∨ f.y0 + f.geometry.h ≤ f.rows)) :
    s.frameLine f g pixels =
      State.passLine
        { s with
          path.engine := if StartsBand f i then s.path.engine.bandStart f.geometry (s.path.intake.stale s.now)
            else s.path.engine
          path.window.frame := some (s.rowBegun f i)
          path.window.watch := some (watchFrom s.now g) }
        (s.rowBegun f i) i pixels := by
  subst hi
  simp only [frameLine, if_neg h, rowBegun]
  by_cases hstart : StartsBand f (f.rows - f.y0)
  · simp only [if_pos hstart]; rfl
  · simp only [if_neg hstart]; rfl

/-- A line cut at its band's column, while the frame stream has room for it (R45, R47). -/
theorem passLine_of_room (s : State) (f : OpenFrame) (i : Nat) (pixels : List Pixel) {cut : List Pixel × Bool}
    (hcut : cutLine f.geometry.sensorW f.geometry.w (f.bands.toList.getD (i / bandHeight f.geometry) 0) pixels = cut)
    (h : linesHeld s.path.link.stream < 4) :
    s.passLine f i pixels = State.chooseUnit
      { s with
        path.window.frame := some { f with lines := f.lines + 1, shortLine := f.shortLine || cut.2 }
        path.link.stream := s.path.link.stream ++ [.line i cut.1] } := by
  subst hcut; exact if_pos h

/-- A line dropped, since the frame stream holds 4 (R45, log 14). -/
theorem passLine_of_full (s : State) (f : OpenFrame) (i : Nat) (pixels : List Pixel) {cut : List Pixel × Bool}
    (hcut : cutLine f.geometry.sensorW f.geometry.w (f.bands.toList.getD (i / bandHeight f.geometry) 0) pixels = cut)
    (h : 4 ≤ linesHeld s.path.link.stream) :
    s.passLine f i pixels = s.onWindow fun w =>
      { w with frame := some { f with shortLine := f.shortLine || cut.2 } } := by
  subst hcut; exact if_neg (Nat.not_lt.mpr h)

end State

/-- A line while no frame is open: an orphan, but for the rest of a discarded frame (R39, R48). -/
theorem exec_lineUnit_orphan {s : State} (hup : s.pathUp = true) (pixels : List Pixel)
    (h : s.path.window.path = .between ∨ (s.path.window.path = .idle ∧ s.path.window.discardMarker = false)) :
    exec (.lineUnit pixels) s = .next (s.onWindow fun w => { w with orphanLines := satAdd w.orphanLines 1 }) := by
  show execLineUnit pixels s = _
  rw [execLineUnit, State.whenUp_of_pathUp hup]
  obtain hpath | ⟨hpath, hmarker⟩ := h
  · rw [hpath]
  · rw [hpath, hmarker]; rfl

theorem exec_lineUnit_discarded {s : State} (hup : s.pathUp = true) (pixels : List Pixel)
    (hpath : s.path.window.path = .idle) (hmarker : s.path.window.discardMarker = true) :
    exec (.lineUnit pixels) s = .next s := by
  show execLineUnit pixels s = _
  rw [execLineUnit, State.whenUp_of_pathUp hup, hpath, hmarker]; rfl

theorem exec_lineUnit_inFrame {s : State} {f : OpenFrame} {g : Geometry} (hup : s.pathUp = true) (pixels : List Pixel)
    (hpath : s.path.window.path = .inFrame) (hframe : s.path.window.frame = some f)
    (hgeometry : s.path.window.geometry = some g) :
    exec (.lineUnit pixels) s = .next (s.frameLine f g pixels) := by
  show execLineUnit pixels s = _
  rw [execLineUnit, State.whenUp_of_pathUp hup, hpath, hframe, hgeometry]

/-- Settles O34: the unit by the pixel path state, then the row by where it lies, then the line by the room there is. -/
theorem lineUnitPassesOneRow : Obligations.LineUnitPassesOneRow := by
  intro s pixels hup
  refine ⟨exec_lineUnit_orphan hup pixels, exec_lineUnit_discarded hup pixels, fun f g hpath hframe hgeometry => ?_⟩
  rw [exec_lineUnit_inFrame hup pixels hpath hframe hgeometry]
  intro watch rows
  refine ⟨fun houtside => congrArg _ (s.frameLine_outside g pixels houtside), fun htop hbottom => ?_⟩
  intro i rowsOfBand b starts k mx shift column stale bands cut engine
  have hcolumn : (k.column f.geometry).1 = column := k.column_fst f.geometry
  have hbegun : s.rowBegun f i = { f with rows := rows, bands := bands } := by
    rw [State.rowBegun, hcolumn]; rfl
  have hengine : (if State.StartsBand f i then k.bandStart f.geometry (s.path.intake.stale s.now) else k) = engine := by
    rw [Engine.bandStart_eq, Intake.stale_eq]; rfl
  rw [s.frameLine_inside g pixels rfl (by omega), hengine, hbegun]
  refine ⟨fun hroom => congrArg _ ?_, fun hfull => congrArg _ ?_⟩
  · exact State.passLine_of_room _ _ _ _ rfl hroom
  · exact State.passLine_of_full _ _ _ _ rfl hfull

end Sys2Proof.Machine
end

section
/-! PROOFS. The laws of steadying and of the frame window, first layer: the part of the state that they speak of, and
the shared operations that leave it as it was. -/

namespace Sys2Proof.Machine

/-! ### What the laws speak of -/

/-- What the two laws read: shake and carry with the active limits, the open frame, and how many lines the frame stream
holds. -/
structure Picture where
  shake : PerAxis Int
  carry : PerAxis Int
  limit : PerAxis Nat
  frame : Option OpenFrame
  lines : Nat

namespace State

/-- The part of a state that the laws of steadying and of the frame window speak of. -/
def picture (s : State) : Picture where
  shake := s.path.engine.shake
  carry := s.path.engine.carry
  limit := s.path.intake.active.limit
  frame := s.path.window.frame
  lines := linesHeld s.path.link.stream

section
variable (s : State)

@[simp] theorem picture_onSlot (i : Fin 4) (f : Slot → Slot) : (s.onSlot i f).picture = s.picture := rfl
@[simp] theorem picture_onCard (f : Card → Card) : (s.onCard f).picture = s.picture := rfl
@[simp] theorem picture_onConv (f : Converter → Converter) : (s.onConv f).picture = s.picture := rfl
@[simp] theorem picture_onProt (f : Protection → Protection) : (s.onProt f).picture = s.picture := rfl
@[simp] theorem picture_onChg (f : Charger → Charger) : (s.onChg f).picture = s.picture := rfl
@[simp] theorem picture_onEnergy (f : Energy → Energy) : (s.onEnergy f).picture = s.picture := rfl
@[simp] theorem picture_onPins (f : Pins → Pins) : (s.onPins f).picture = s.picture := rfl
@[simp] theorem picture_onFlags (f : FrameFlags → FrameFlags) : (s.onFlags f).picture = s.picture := rfl

/-- Of the intake, the picture reads the active limits alone. -/
@[simp] theorem picture_onIntake {f : Intake → Intake} (h : (f s.path.intake).active = s.path.intake.active) :
    (s.onIntake f).picture = s.picture := by
  simp [picture, h]

/-- Of the window, the picture reads the open frame alone. -/
@[simp] theorem picture_onWindow {f : Window → Window} (h : (f s.path.window).frame = s.path.window.frame) :
    (s.onWindow f).picture = s.picture := by
  simp [picture, h]

/-- Of the engine, the picture reads shake and carry alone. -/
@[simp] theorem picture_onEngine {f : Engine → Engine} (hshake : (f s.path.engine).shake = s.path.engine.shake)
    (hcarry : (f s.path.engine).carry = s.path.engine.carry) : (s.onEngine f).picture = s.picture := by
  simp [picture, hshake, hcarry]

/-- Of the link, the picture reads the lines of the frame stream alone. -/
@[simp] theorem picture_onLink {f : Link → Link} (h : linesHeld (f s.path.link).stream = linesHeld s.path.link.stream) :
    (s.onLink f).picture = s.picture := by
  simp [picture, h]

/-- An operation run over a list leaves the picture where it does so for each element. -/
theorem picture_foldl {α : Type} {f : State → α → State} (h : ∀ s a, (f s a).picture = s.picture) (l : List α) :
    (l.foldl f s).picture = s.picture := by
  induction l generalizing s with
  | nil => rfl
  | cons a rest ih => exact (ih (f s a)).trans (h s a)

/-! ### Time, replies, notices, credit -/

@[simp] theorem picture_elapse (us : Nat) : (s.elapse us).picture = s.picture := by
  simp [picture, elapse_intake]

@[simp] theorem picture_chooseUnit : s.chooseUnit.picture = s.picture := by simp [picture]

@[simp] theorem picture_offer (n : Notice) : (s.onLink fun l => l.offer n).picture = s.picture := by
  rcases s.path.link.offer_cases n with ⟨_, h⟩ | ⟨_, h⟩ <;> exact s.picture_onLink (by rw [h])

@[simp] theorem picture_notify (n : Notice) : (s.notify n).picture = s.picture := by
  rcases s.notify_cases n with ⟨_, h⟩ | ⟨_, h⟩ <;> simp [h]

@[simp] theorem picture_reply (tag : Byte) (code : ReplyCode) (data : ReplyData) :
    (s.reply tag code data).picture = s.picture := by
  rcases s.reply_cases tag code data with ⟨_, h⟩ | ⟨_, h⟩ <;> rw [h]
  rw [picture_chooseUnit]; rfl

@[simp] theorem picture_answer (tag : Byte) (code : ReplyCode) : (s.answer tag code).picture = s.picture :=
  s.picture_reply tag code .none

@[simp] theorem picture_release (n : Nat) : (s.release n).picture = s.picture := by
  rcases s.release_cases n with ⟨_, h⟩ | ⟨_, h⟩ <;> rw [h]
  rw [picture_chooseUnit]; rfl

@[simp] theorem picture_receive (n : Nat) : (s.receive n).picture = s.picture := rfl

@[simp] theorem picture_offerRead (tag : Byte) (blocks : List Block) :
    (s.offerRead tag blocks).picture = s.picture := by
  simp [offerRead]

@[simp] theorem picture_retain (i : Fin 4) (clip : Nat) : (s.retain i clip).picture = s.picture := rfl
@[simp] theorem picture_retainClosing (i : Fin 4) : (s.retainClosing i).picture = s.picture := rfl
@[simp] theorem picture_retainWritten (i : Fin 4) (n : Nat) : (s.retainWritten i n).picture = s.picture := rfl
@[simp] theorem picture_unretain (i : Fin 4) : (s.unretain i).picture = s.picture := rfl

/-! ### Track assembler and clip slots -/

@[simp] theorem picture_placeBuffer (i : Fin 4) (b : Fin 2) (r : List FrameRecord) :
    (s.placeBuffer i b r).picture = s.picture := by
  unfold placeBuffer; split <;> simp

@[simp] theorem picture_appendRecord (i : Fin 4) (r : FrameRecord) : (s.appendRecord i r).picture = s.picture := by
  unfold appendRecord; (repeat' split) <;> simp

theorem picture_offerRecord (r : FrameRecord) (i : Fin 4) : (State.offerRecord r s i).picture = s.picture := by
  unfold offerRecord; dsimp only; (repeat' split) <;> simp

@[simp] theorem picture_takeRecord (r : FrameRecord) : (s.takeRecord r).picture = s.picture :=
  s.picture_foldl (picture_offerRecord · r) _

@[simp] theorem picture_closeSlot (i : Fin 4) (stop : FrameNo) (cause : SealCause) :
    (s.closeSlot i stop cause).picture = s.picture := rfl

@[simp] theorem picture_freeSlot (i : Fin 4) : (s.freeSlot i).picture = s.picture := rfl

@[simp] theorem picture_cutAllOwed : s.cutAllOwed.picture = s.picture := by
  rw [cutAllOwed, picture_foldl _ fun s i => s.picture_onSlot i _]

theorem picture_sealSlot (i : Fin 4) : (s.sealSlot i).picture = s.picture := by
  unfold sealSlot; split <;> simp

@[simp] theorem picture_emergencySeal : s.emergencySeal.picture = s.picture := s.picture_foldl picture_sealSlot _

theorem picture_loseSlot (cause : LossCause) (i : Fin 4) : (State.loseSlot cause s i).picture = s.picture := by
  unfold loseSlot; dsimp only; split <;> simp

@[simp] theorem picture_loseSlots (cause : LossCause) : (s.loseSlots cause).picture = s.picture :=
  s.picture_foldl (picture_loseSlot · cause) _

@[simp] theorem picture_sealed (i : Fin 4) (summary : Summary) (failed : Bool) :
    (s.sealed i summary failed).picture = s.picture := by
  simp [sealed]

@[simp] theorem picture_takeHandback (h : Handback) : (s.takeHandback h).picture = s.picture := by
  unfold takeHandback; (repeat' split) <;> simp

@[simp] theorem picture_checkSpaceLow (i : Fin 4) : (s.checkSpaceLow i).picture = s.picture := by
  unfold checkSpaceLow; dsimp only; split <;> simp

/-! ### Data packets -/

@[simp] theorem picture_headerError : s.headerError.picture = s.picture := by
  unfold headerError; rw [picture_notify]; rfl

@[simp] theorem picture_countPayloadError : s.countPayloadError.picture = s.picture := rfl

@[simp] theorem picture_discardClip (i : Fin 4) (n : Nat) (cause : DiscardCause) :
    (s.discardClip i n cause).picture = s.picture := by
  simp [discardClip]

@[simp] theorem picture_discardPlain (start n : Nat) (cause : DiscardCause) :
    (s.discardPlain start n cause).picture = s.picture := by
  simp [discardPlain]

@[simp] theorem picture_takeClipData (i : Fin 4) (n : Nat) (p : Option (List Block)) :
    (s.takeClipData i n p).picture = s.picture := by
  unfold takeClipData; (repeat' split) <;> simp [placePacket]

@[simp] theorem picture_takePlain (start n : Nat) (p : Option (List Block)) :
    (s.takePlain start n p).picture = s.picture := by
  unfold takePlain; (repeat' split) <;> simp

@[simp] theorem picture_takeData (n : Nat) (p : Option (List Block)) : (s.takeData n p).picture = s.picture := by
  unfold takeData; split <;> simp

/-! ### Card engine -/

@[simp] theorem picture_releaseEntries (e : List Entry) : (s.releaseEntries e).picture = s.picture :=
  s.picture_release _

@[simp] theorem picture_handBack (e : List Entry) (r : HandbackResult) : (s.handBack e r).picture = s.picture := rfl

@[simp] theorem picture_answerReads (reads : List CardRead) (code : ReplyCode) :
    (s.answerReads reads code).picture = s.picture := by
  rw [answerReads, picture_foldl _ fun s (r : CardRead) => s.picture_answer r.tag code]

@[simp] theorem picture_teardown (new : CardState) (cause : CardCause) (loss : LossCause) :
    (s.teardown new cause loss).picture = s.picture := by
  simp [teardown, emptyQueue, dropReads]

@[simp] theorem picture_removeCard : s.removeCard.picture = s.picture := by simp [removeCard]

@[simp] theorem picture_startCard (cause : CardCause) : (s.startCard cause).picture = s.picture := by simp [startCard]

@[simp] theorem picture_startResponse (r : StartResponse) : (s.startResponse r).picture = s.picture := by
  unfold startResponse; (repeat' split) <;> simp [cardReady]

@[simp] theorem picture_judgeFailures : s.judgeFailures.picture = s.picture := by
  unfold judgeFailures; split <;> simp

theorem picture_faultOwner (e : List Entry) (o : Option (Fin 4)) : (State.faultOwner e s o).picture = s.picture := by
  unfold faultOwner; split <;> simp

@[simp] theorem picture_writeFailed (t : Transaction) (k : Nat) (outcome : AttemptFailure) :
    (s.writeFailed t k outcome).picture = s.picture := by
  simp only [writeFailed, picture_judgeFailures]
  rw [picture_foldl _ fun s o => s.picture_notify _, picture_foldl _ fun s o => s.picture_faultOwner _ o]
  simp

@[simp] theorem picture_readFailed : s.readFailed.picture = s.picture := by simp [readFailed]

@[simp] theorem picture_endAttempt (t : Transaction) (outcome : AttemptFailure) :
    (s.endAttempt t outcome).picture = s.picture := by
  unfold endAttempt; dsimp only; (repeat' split) <;> simp

theorem picture_completeEntry (e : Entry) : (s.completeEntry e).picture = s.picture := by
  unfold completeEntry; split <;> rfl

@[simp] theorem picture_writeDone (k : Nat) : (s.writeDone k).picture = s.picture := by
  rw [writeDone, picture_foldl _ picture_completeEntry]; simp

@[simp] theorem picture_beginBusy (t : Transaction) : (s.beginBusy t).picture = s.picture := rfl

@[simp] theorem picture_readBlock (t : Transaction) (blocks : List Block) :
    (s.readBlock t blocks).picture = s.picture := by
  unfold readBlock; split <;> simp

@[simp] theorem picture_takeRead (tag : Byte) (a : ReadArgs) : (s.takeRead tag a).picture = s.picture := by
  unfold takeRead; (repeat' split) <;> simp

@[simp] theorem picture_endReadData : s.endReadData.picture = s.picture := by
  unfold endReadData; (repeat' split) <;> simp [endRead]

/-! ### Motion intake -/

@[simp] theorem picture_shockCheck (stamp : Time) (sum : Nat) : (s.shockCheck stamp sum).picture = s.picture := by
  rw [shockCheck_eq]; rfl

@[simp] theorem picture_takeSample (stamp : Time) (r : RawSample) : (s.takeSample stamp r).picture = s.picture := by
  unfold takeSample; rw [picture_shockCheck]; rfl

/-! ### Monitor domain, where it leaves the rail alone -/

@[simp] theorem picture_settleEnergy (cause : EnergyCause) : (s.settleEnergy cause).picture = s.picture := by
  unfold settleEnergy; dsimp only; (repeat' split) <;> simp

@[simp] theorem picture_calibrate (charge : Int) : (s.calibrate charge).picture = s.picture := by
  unfold calibrate; dsimp only; split <;> simp

@[simp] theorem picture_noticeClear (c : Cleared) (cause : ClearCause) :
    (s.noticeClear c cause).picture = s.picture := by
  simp [noticeClear]

@[simp] theorem picture_settleDemand : s.settleDemand.picture = s.picture := rfl
@[simp] theorem picture_settleIccEff : s.settleIccEff.picture = s.picture := rfl

@[simp] theorem picture_endWarning : s.endWarning.picture = s.picture := by
  unfold endWarning; split <;> simp

@[simp] theorem picture_evalDuv : s.evalDuv.picture = s.picture := by
  unfold evalDuv; dsimp only; (repeat' split) <;> simp

@[simp] theorem picture_answerProtect : s.answerProtect.picture = s.picture := by
  unfold answerProtect; split
  · rfl
  · rw [picture_answer]; rfl

@[simp] theorem picture_enter (c : Channel) (v : Int) : (s.enter c v).picture = s.picture := rfl

@[simp] theorem picture_countCharge (i : Int) : (s.countCharge i).picture = s.picture := by
  unfold countCharge; dsimp only; split <;> simp

end

end State

end Sys2Proof.Machine
end

section
/-! PROOFS. The laws of steadying and of the frame window, second layer: what carries them from one state to another,
and the operations that move the picture: a reset of the path domain, an integration, a swap, a recentre, the frames
and their lines, and what settles the rail. -/

namespace Sys2Proof.Machine

/-! ### The laws of a picture -/

/-- The origin and every band column of a frame lie inside the sensor (R26). -/
def OpenFrame.Inside (f : OpenFrame) : Prop :=
  f.x0 ≤ f.geometry.sensorW - f.geometry.w ∧ f.y0 ≤ f.geometry.sensorH - f.geometry.h ∧
    ∀ c ∈ f.bands.toList, c ≤ f.geometry.sensorW - f.geometry.w

namespace Picture

/-- State.ShakeLaw, read off the picture. -/
def ShakeHeld (p : Picture) : Prop :=
  axisBounded p.shake.yaw p.carry.yaw p.limit.yaw ∧ axisBounded p.shake.pitch p.carry.pitch p.limit.pitch ∧
  axisBounded p.shake.roll p.carry.roll p.limit.roll

/-- State.WindowLaw, read off the picture. -/
def WindowHeld (p : Picture) : Prop := (∀ f, p.frame = some f → f.Inside) ∧ p.lines ≤ 4

/-- A picture that meets a law is followed by one that meets it. -/
def Carries (p q : Picture) : Prop := (p.ShakeHeld → q.ShakeHeld) ∧ (p.WindowHeld → q.WindowHeld)

theorem Carries.refl (p : Picture) : p.Carries p := ⟨id, id⟩

theorem Carries.trans {p q r : Picture} (h : p.Carries q) (h' : q.Carries r) : p.Carries r :=
  ⟨h'.1 ∘ h.1, h'.2 ∘ h.2⟩

theorem Carries.of_eq {p q : Picture} (h : q = p) : p.Carries q := h ▸ Carries.refl p

end Picture

theorem State.shakeLaw_iff (s : State) : s.ShakeLaw ↔ s.picture.ShakeHeld := Iff.rfl

theorem State.windowLaw_iff (s : State) : s.WindowLaw ↔ s.picture.WindowHeld := Iff.rfl

/-! ### A reset of the path domain -/

theorem axisBounded_zero (limit : Nat) : axisBounded 0 0 limit :=
  ⟨by omega, by omega, by decide, by decide⟩

/-- A path domain at its reset values meets both laws, whatever came before. -/
theorem State.carries_of_reset (p : Picture) {s : State} (h : s.path = .afterReset) : p.Carries s.picture := by
  have hpicture : s.picture = ⟨⟨0, 0, 0⟩, ⟨0, 0, 0⟩, ⟨2000000, 2000000, 2000000⟩, none, 0⟩ := by
    rw [State.picture, h]; rfl
  rw [hpicture]
  exact ⟨fun _ => ⟨axisBounded_zero _, axisBounded_zero _, axisBounded_zero _⟩, fun _ => ⟨by simp, by decide⟩⟩

/-! ### Shake and carry (R16, R18, R20, R22) -/

theorem axisBounded_integrateAxis (k a limit : Nat) (g : Int) (dt : Nat) (shake carry : Int) :
    axisBounded (integrateAxis k a limit g dt shake carry).1 (integrateAxis k a limit g dt shake carry).2.1 limit := by
  rw [integrateAxis_eq]
  obtain ⟨hlow, hhigh⟩ := heldWithin_bounds (axisSum k a limit g dt shake carry) limit
  exact ⟨hlow, hhigh, by dsimp only; omega, by dsimp only; omega⟩

/-- A shake clamped to a new limit lies within it, beside a carry as it was (R22). -/
theorem axisBounded_heldWithin {shake carry : Int} {limit : Nat} (h : axisBounded shake carry limit) (new : Nat) :
    axisBounded (heldWithin shake new) carry new := by
  obtain ⟨_, _, hcarry⟩ := h
  obtain ⟨hlow, hhigh⟩ := heldWithin_bounds shake new
  exact ⟨hlow, hhigh, hcarry⟩

namespace State
variable {p : Picture} {s : State}

theorem carries_integrate (s : State) (g : PerAxis Int) (dt : Nat) :
    s.picture.Carries (s.onEngine fun e => e.integrate s.path.intake.active g dt).picture :=
  ⟨fun _ => ⟨axisBounded_integrateAxis _ _ _ _ _ _ _, axisBounded_integrateAxis _ _ _ _ _ _ _,
    axisBounded_integrateAxis _ _ _ _ _ _ _⟩, id⟩

theorem carries_recentre (s : State) : s.picture.Carries (s.onEngine Engine.recentre).picture :=
  ⟨fun _ => ⟨axisBounded_zero _, axisBounded_zero _, axisBounded_zero _⟩, id⟩

@[simp] theorem picture_swapGeometry (s : State) : s.swapGeometry.picture = s.picture := by
  unfold swapGeometry; split <;> simp

theorem carries_swapMotion (s : State) : s.picture.Carries s.swapMotion.picture := by
  rcases hpending : s.path.intake.pending with _ | m
  · exact .of_eq (by simp [swapMotion, hpending])
  · refine ⟨fun hshake => ?_, fun hwindow => ?_⟩
    · have hlimit : s.swapMotion.picture.limit = m.limit := by
        simp [picture, swapMotion_intake, hpending, Intake.takeSetup_eq]
      have hcarry : s.swapMotion.picture.carry = s.picture.carry := by
        simp only [picture]; rw [swapMotion_engine]
      have hheld : s.swapMotion.picture.shake = _ := (swapMotion_shake_flags_of_some hpending).1
      obtain ⟨hy, hp, hr⟩ := hshake
      rw [Picture.ShakeHeld, hlimit, hcarry, hheld]
      exact ⟨axisBounded_heldWithin hy _, axisBounded_heldWithin hp _, axisBounded_heldWithin hr _⟩
    · simpa [Picture.WindowHeld, picture, swapMotion, hpending] using hwindow

theorem carries_swap (h : p.Carries s.picture) : p.Carries s.swap.picture := by
  rcases hdue : s.swapDue with _ | _
  · rwa [swap_of_not_due hdue]
  · have hmotion := s.swapGeometry.carries_swapMotion
    rw [picture_swapGeometry] at hmotion
    rw [swap_of_due hdue]
    exact (h.trans hmotion).trans (.of_eq (by simp [Engine.takeTables]))

theorem carries_swapIfIdle (h : p.Carries s.picture) : p.Carries s.swapIfIdle.picture := by
  unfold swapIfIdle; split
  · exact carries_swap h
  · exact h

end State

/-! ### The frame stream (R51) -/

theorem linesHeld_append (l : List StreamUnit) (u : StreamUnit) :
    linesHeld (l ++ [u]) = linesHeld l + if u.isLine then 1 else 0 := by
  cases hu : u.isLine <;> simp [linesHeld, hu]

theorem linesHeld_drop_le (l : List StreamUnit) (n : Nat) : linesHeld (l.drop n) ≤ linesHeld l :=
  ((List.drop_sublist n l).filter _).length_le

/-! ### Windows inside the sensor (R26, R27) -/

theorem Engine.column_le (e : Engine) (g : Geometry) : (e.column g).1 ≤ g.sensorW - g.w := by
  have hplace := place_le (marginX g) (displacementThrough e.lensH e.shake.yaw)
  rcases h : e.mode with _ | _
  · simp only [column_of_off g h, marginX]; omega
  · simp only [column_of_on g h, marginX] at *; omega

theorem Engine.row_le (e : Engine) (g : Geometry) : (e.row g).1 ≤ g.sensorH - g.h := by
  have hplace := place_le (marginY g) (displacementThrough e.lensV e.shake.pitch)
  rcases h : e.mode with _ | _
  · simp only [row_of_off g h, marginY]; omega
  · simp only [row_of_on g h, marginY] at *; omega

/-- A frame as it begins, with the positions of an engine, lies inside the sensor. -/
theorem OpenFrame.inside_of_begun {f : OpenFrame} (e : Engine) (hx : f.x0 = (e.column f.geometry).1)
    (hy : f.y0 = (e.row f.geometry).1) (hbands : f.bands = (Vector.replicate 16 0).set 0 (e.column f.geometry).1) :
    f.Inside := by
  refine ⟨hx ▸ e.column_le _, hy ▸ e.row_le _, fun c hc => ?_⟩
  rw [hbands, Vector.mem_toList_iff] at hc
  obtain hzero | rfl := Vector.mem_or_eq_of_mem_set hc
  · rw [(Vector.mem_replicate.mp hzero).2]; exact Nat.zero_le _
  · exact e.column_le _

/-- A row begun leaves the frame inside the sensor: a band's column is held there as it is entered. -/
theorem OpenFrame.Inside.rowBegun {f : OpenFrame} (h : f.Inside) (s : State) (i : Nat) : (s.rowBegun f i).Inside := by
  obtain ⟨hx, hy, hbands⟩ := h
  refine ⟨hx, hy, fun c hc => ?_⟩
  by_cases hstart : State.StartsBand f i
  · simp only [State.rowBegun, if_pos hstart, Vector.toList_setIfInBounds] at hc
    obtain hold | rfl := List.mem_or_eq_of_mem_set hc
    · exact hbands c hold
    · exact Engine.column_le _ _
  · simp only [State.rowBegun, if_neg hstart] at hc
    exact hbands c hc

namespace State
variable {p : Picture} {s : State}

/-- A picture whose shake, carry and limits stand, with an open frame inside the sensor and no more than 4 lines, meets
the laws that the one before met. -/
theorem carries_frame (h : p.Carries s.picture) {t : State} {f : OpenFrame}
    (hshake : t.picture.shake = s.picture.shake) (hcarry : t.picture.carry = s.picture.carry)
    (hlimit : t.picture.limit = s.picture.limit) (hframe : t.picture.frame = some f)
    (hinside : s.picture.WindowHeld → f.Inside) (hlines : s.picture.lines ≤ 4 → t.picture.lines ≤ 4) :
    p.Carries t.picture := by
  refine h.trans ⟨fun hheld => ?_, fun hheld => ⟨fun f' hf' => ?_, hlines hheld.2⟩⟩
  · rwa [Picture.ShakeHeld, hshake, hcarry, hlimit]
  · rw [hframe, Option.some.injEq] at hf'
    exact hf' ▸ hinside hheld

@[simp] theorem picture_pushStream (s : State) (u : StreamUnit) :
    (s.pushStream u).picture = { s.picture with lines := s.picture.lines + if u.isLine then 1 else 0 } := by
  simp [pushStream, picture, linesHeld_append]

/-! ### Frames closed and begun (R42, R43, R49) -/

/-- Of the picture, the close of a frame moves the open frame alone. -/
@[simp] theorem picture_closeFrame (s : State) (f : OpenFrame) (forced : Bool) :
    (s.closeFrame f forced).picture = { s.picture with frame := none } := by
  unfold closeFrame
  dsimp only
  rw [picture_takeRecord, picture_pushStream]
  rfl

theorem carries_closeFrame (h : p.Carries s.picture) (f : OpenFrame) (forced : Bool) :
    p.Carries (s.closeFrame f forced).picture := by
  rw [picture_closeFrame]
  exact h.trans ⟨id, fun hheld => ⟨by simp, hheld.2⟩⟩

theorem carries_closeShort (h : p.Carries s.picture) : p.Carries s.closeShort.picture := by
  unfold closeShort; split
  · exact h
  · exact carries_closeFrame h _ _

theorem carries_beginFrame (h : p.Carries s.picture) (g : Geometry) : p.Carries (s.beginFrame g).picture := by
  obtain ⟨e, he⟩ : ∃ e, s.path.engine.frameStart g (s.path.intake.stale s.now) = e := ⟨_, rfl⟩
  have hengine : p.Carries (s.onEngine fun _ => e).picture := by
    refine h.trans ⟨fun ⟨hy, hp, hr⟩ => ?_, id⟩
    simp only [Picture.ShakeHeld, picture, onEngine_engine, ← he, Engine.frameStart_eq, Engine.settled]
    split
    · exact ⟨axisBounded_zero _, axisBounded_zero _, axisBounded_zero _⟩
    · exact ⟨hy, hp, hr⟩
  rw [beginFrame_eq s he, picture_chooseUnit]
  refine carries_frame hengine rfl rfl rfl rfl (fun _ => OpenFrame.inside_of_begun e rfl rfl rfl) fun hlines => ?_
  exact (linesHeld_append _ _).trans_le hlines

theorem carries_numberedStart (h : p.Carries s.picture) : p.Carries s.numberedStart.picture := by
  have hclosed := carries_swap (carries_closeShort h)
  unfold numberedStart
  dsimp only
  split
  · exact hclosed
  · exact carries_beginFrame hclosed _

/-! ### Lines (R45) -/

theorem carries_passLine (h : p.Carries s.picture) {f : OpenFrame} (hf : s.path.window.frame = some f) (i : Nat)
    (pixels : List Pixel) : p.Carries (s.passLine f i pixels).picture := by
  have hinside : s.picture.WindowHeld → f.Inside := fun hheld => hheld.1 f hf
  rcases Nat.lt_or_ge (linesHeld s.path.link.stream) 4 with hroom | hfull
  · rw [s.passLine_of_room f i pixels rfl hroom, picture_chooseUnit]
    refine carries_frame h rfl rfl rfl rfl hinside fun _ => ?_
    exact (linesHeld_append _ _).trans_le hroom
  · rw [s.passLine_of_full f i pixels rfl hfull]
    exact carries_frame h rfl rfl rfl rfl hinside id

theorem carries_frameLine (s : State) {f : OpenFrame} (hf : s.path.window.frame = some f) (g : Geometry)
    (pixels : List Pixel) : s.picture.Carries (s.frameLine f g pixels).picture := by
  have hinside : s.picture.WindowHeld → f.Inside := fun hheld => hheld.1 f hf
  by_cases hrow : f.rows < f.y0 ∨ f.y0 + f.geometry.h ≤ f.rows
  · rw [s.frameLine_outside g pixels hrow]
    exact carries_frame (.refl _) rfl rfl rfl rfl hinside id
  · rw [s.frameLine_inside g pixels rfl hrow]
    refine carries_passLine ?_ rfl _ _
    refine carries_frame (s := s) (.refl _) ?_ ?_ rfl rfl (fun hheld => (hinside hheld).rowBegun s _) id
    · simp only [picture]; split <;> rfl
    · simp only [picture]; split <;> rfl

/-! ### The end of a unit (R165) -/

theorem endReply_stream (l : Link) : l.endReply.stream = l.stream := by
  unfold Link.endReply; (repeat' split) <;> rfl

/-- The end of a frame unit takes it out of the stream; that of a cell leaves the picture. -/
theorem carries_endUnit (s : State) : s.picture.Carries s.endUnit.picture := by
  unfold endUnit
  split
  · exact ⟨id, fun hheld => ⟨hheld.1, (linesHeld_drop_le _ 1).trans hheld.2⟩⟩
  all_goals exact .of_eq (by simp [endReply_stream])

/-! ### The rail (R153), and what the monitor domain does under it -/

/-- A rail that is lost or returns resets the path domain; otherwise nothing moves. -/
theorem carries_settleRail (h : p.Carries s.picture) : p.Carries s.settleRail.picture := by
  rcases s.settleRail_cases with ⟨_, hsame⟩ | ⟨_, _, hreturn⟩ | ⟨_, _, hlost⟩
  · rwa [hsame]
  · rw [hreturn]; exact carries_of_reset p rfl
  · rw [hlost]; exact carries_of_reset p rfl

theorem carries_settleSwitches (h : p.Carries s.picture) : p.Carries s.settleSwitches.picture := carries_settleRail h

theorem carries_dischargeTrip (h : p.Carries s.picture) (c : Condition) (m : Option Int) :
    p.Carries (s.dischargeTrip c m).picture := by
  simp only [dischargeTrip, picture_notify]
  exact carries_settleSwitches h

theorem carries_chargeTrip (h : p.Carries s.picture) : p.Carries s.chargeTrip.picture := by
  simp only [chargeTrip, picture_notify]
  exact carries_settleSwitches h

theorem carries_protectInput (h : p.Carries s.picture) : p.Carries s.protectInput.picture := by
  have hswitched := fun f => carries_settleSwitches (s := s.onProt f) h
  unfold protectInput
  dsimp only
  split
  · (repeat' split) <;> simp only [picture_noticeClear, hswitched]
  · exact h

theorem carries_moveCharger (h : p.Carries s.picture) (new : ChargerState) (cause : ChargerCause)
    (causes : HoldCauses) : p.Carries (s.moveCharger new cause causes).picture := by
  unfold moveCharger
  dsimp only
  split
  · exact h
  · split
    · rw [picture_calibrate, picture_notify]; exact carries_settleSwitches h
    · rw [picture_notify]; exact carries_settleSwitches h

end State

end Sys2Proof.Machine
end

section
/-! PROOFS. The laws of steadying and of the frame window, third layer: the operations of the monitor domain, which
reach the picture through the rail alone. -/

namespace Sys2Proof.Machine.State
variable {p : Picture} {s : State}

/-! ### Charger -/

theorem carries_beginHold (h : p.Carries s.picture) (cause : HoldCause) : p.Carries (s.beginHold cause).picture := by
  unfold beginHold
  (repeat' split)
  · exact carries_moveCharger h _ _ _
  · simpa using h
  · exact h

theorem carries_endHold (h : p.Carries s.picture) (cause : HoldCause) : p.Carries (s.endHold cause).picture := by
  unfold endHold
  dsimp only
  (repeat' split)
  · exact carries_moveCharger (by simpa using h) _ _ _
  · simpa using h
  · simpa using h

theorem carries_chargerBattTemp (h : p.Carries s.picture) (t : Int) : p.Carries (s.chargerBattTemp t).picture := by
  unfold chargerBattTemp
  dsimp only
  (repeat' split)
  · exact carries_beginHold (by simpa using h) _
  · exact carries_endHold (by simpa using h) _
  · simpa using h

theorem carries_setDieHot (h : p.Carries s.picture) (hot : Bool) : p.Carries (s.setDieHot hot).picture := by
  unfold setDieHot
  dsimp only
  (repeat' split)
  · exact carries_beginHold (by simpa using h) _
  · exact carries_endHold (by simpa using h) _
  · simpa using h

theorem carries_chargerCell (h : p.Carries s.picture) : p.Carries s.chargerCell.picture := by
  unfold chargerCell
  (repeat' split)
  · exact carries_moveCharger (by simpa using h) _ _ _
  · exact h
  · exact carries_moveCharger (by simpa using h) _ _ _
  · exact h
  · exact carries_settleSwitches (by simpa using h)
  · exact carries_moveCharger (by simpa using h) _ _ _
  · exact carries_settleSwitches (by simpa using h)
  · exact h

theorem carries_chargerCurrent (h : p.Carries s.picture) (i : Int) : p.Carries (s.chargerCurrent i).picture := by
  unfold chargerCurrent
  dsimp only
  split
  · refine iteInduction (motive := fun t : State => p.Carries t.picture) (fun _ => ?_) fun _ => ?_
    · exact carries_moveCharger (by simpa using h) _ _ _
    · simpa using h
  · exact h

theorem carries_inputAbsent (h : p.Carries s.picture) : p.Carries s.inputAbsent.picture := by
  simp only [inputAbsent, picture_settleEnergy]
  exact carries_moveCharger (carries_settleRail (by simpa using h)) _ _ _

theorem carries_inputPresent (h : p.Carries s.picture) : p.Carries s.inputPresent.picture := by
  simp only [inputPresent, picture_settleEnergy]
  refine carries_protectInput ?_
  split
  · exact carries_moveCharger (carries_settleRail (by simpa using h)) _ _ _
  · exact carries_settleRail (by simpa using h)

theorem carries_judgeInput (h : p.Carries s.picture) (mv : Int) : p.Carries (s.judgeInput mv).picture := by
  unfold judgeInput
  (repeat' split)
  · exact carries_inputAbsent h
  · simpa using h
  · exact carries_inputPresent h
  · simpa using h
  · simpa using h

theorem carries_chargerInput (h : p.Carries s.picture) (mv : Int) : p.Carries (s.chargerInput mv).picture := by
  have hjudged := carries_judgeInput h mv
  unfold chargerInput
  dsimp only
  split
  · exact hjudged
  · exact hjudged

/-! ### Protection unit and converter -/

theorem carries_evalCells (h : p.Carries s.picture) : p.Carries s.evalCells.picture := by
  rw [evalCells, picture_evalDuv]
  unfold evalCov
  (repeat' split)
  · refine carries_endHold ?_ _
    rw [picture_noticeClear]
    exact carries_settleSwitches (by simpa using h)
  · exact h
  · exact h

theorem carries_takeCurrent (h : p.Carries s.picture) (i : Int) : p.Carries (s.takeCurrent i).picture := by
  refine carries_chargerCurrent ?_ i
  rwa [picture_onProt, picture_countCharge, picture_enter]

theorem carries_handOn (h : p.Carries s.picture) (c : Channel) (v : Int) : p.Carries (s.handOn c v).picture := by
  have hcell : p.Carries (s.evalCells.chargerCell.settleEnergy .cell).picture := by
    rw [picture_settleEnergy]; exact carries_chargerCell (carries_evalCells h)
  cases c with
  | cell1 => exact hcell
  | cell2 => exact hcell
  | input => exact carries_chargerInput h v
  | battTemp => exact carries_chargerBattTemp h v
  | dieTemp => exact carries_setDieHot h _
  | pack => exact h
  | current => exact h

theorem carries_endVisit (h : p.Carries s.picture) : p.Carries s.endVisit.picture := by
  unfold endVisit
  dsimp only
  (repeat' split)
  · simpa using h
  · exact carries_setDieHot (by simpa using h) _
  · simpa using h

end Sys2Proof.Machine.State
end

section
/-! PROOFS. The laws of steadying and of the frame window (O16): every command carries them, by the shape it has (a step
of the path domain, a request, an expiry), and so does every step. -/

namespace Sys2Proof.Machine

/-! ### The shapes of a command -/

/-- A law that every command keeps, and that neither the queue nor a microsecond that passes can break, is kept. -/
theorem kept_of_exec {law : State → Prop} (hexec : ∀ c s t, law s → exec c s = .next t → law t)
    (hqueue : ∀ s rest, law s → law { s with pending := rest }) (htime : ∀ s, law s → law (s.elapse 1)) : Kept law := by
  refine ⟨hexec, fun s t hlaw hstep => ?_⟩
  unfold step at hstep
  split at hstep
  · exact hexec _ _ t (hqueue s _ hlaw) hstep
  · split at hstep
    · exact hexec _ s t hlaw hstep
    · cases hstep; exact htime s hlaw

/-- What a command answers carries the laws on from the state it ran on. -/
def Carried (s : State) (o : Host.Outcome State Fault Refusal) : Prop := ∀ t, o = .next t → s.picture.Carries t.picture

section
variable {s : State}

theorem carried_next {t : State} (h : s.picture.Carries t.picture) : Carried s (.next t) := by
  rintro _ ⟨⟩; exact h

theorem carried_whenUp {body : State → State} (h : s.picture.Carries (body s).picture) :
    Carried s (.next (s.whenUp body)) := by
  refine carried_next ?_
  rcases s.whenUp_cases body with ⟨_, heq⟩ | ⟨_, heq⟩ <;> rw [heq]
  · exact h
  · exact .refl _

theorem carried_request {tag : Byte} {kind : RequestKind} {body : State → State}
    (h : ∀ u : State, u.picture.Carries (body u).picture) : Carried s (.next (s.request tag kind body)) := by
  refine carried_next ?_
  rcases s.request_cases tag kind body with ⟨_, _, heq⟩ | ⟨_, _, heq⟩ | ⟨_, heq⟩ <;> rw [heq]
  · exact (Picture.Carries.of_eq (by simp)).trans (h _)
  · exact .of_eq (by simp)
  · exact .refl _

theorem carries_expiry {left : Option Nat} {act : State → State}
    (h : ∀ u : State, u.picture.Carries (act u).picture) : s.picture.Carries (s.expiry left act).picture := by
  rcases s.expiry_cases left act with ⟨_, heq⟩ | ⟨_, _, _, heq⟩ | ⟨us, _, _, heq⟩ <;> rw [heq]
  · exact .refl _
  · exact .refl _
  · simpa using h (s.elapse us)

theorem carried_expiry {left : Option Nat} {act : State → State}
    (h : ∀ u : State, u.picture.Carries (act u).picture) : Carried s (.next (s.expiry left act)) :=
  carried_next (carries_expiry h)

end

/-! ### The commands of intake, steadying and frame window -/

@[simp] theorem edge_active (i : Intake) : (edge i).active = i.active := by
  by_cases h : i.state = .stopped
  · rw [edge_of_stopped h]
  · rw [edge_of_not_stopped h]

section
variable (s : State)

theorem carried_sampleIntegration : Carried s (execSampleIntegration s) := by
  refine carried_whenUp ?_
  split
  · rw [State.picture_onIntake _ rfl]; exact s.carries_integrate _ _
  · exact .refl _

theorem carried_sampleReadComplete (bytes : Vector Byte 12) : Carried s (execSampleReadComplete bytes s) := by
  refine carried_whenUp (.of_eq ?_)
  dsimp only
  (repeat' split) <;> simp

theorem carried_motionSetup (tag : Byte) (args : MotionArgs) : Carried s (execMotionSetup tag args s) := by
  refine carried_request fun u => ?_
  split
  · exact .of_eq (by simp)
  · rw [State.picture_answer]
    exact State.carries_swapIfIdle (.of_eq (by simp))

theorem carried_lensTable (tag : Byte) (axis : Option LensAxis) (spacing : Nat) (entries : Vector Nat 17) :
    Carried s (execLensTable tag axis spacing entries s) := by
  refine carried_request fun u => ?_
  (repeat' split)
  · exact .of_eq (by simp)
  · exact .of_eq (by simp)
  · exact .of_eq (by simp)
  · rw [State.picture_answer]
    refine State.carries_swapIfIdle (.of_eq (u.picture_onEngine ?_ ?_)) <;> unfold Engine.setPending <;> split <;> rfl

theorem carried_loadGeometry (tag : Byte) (args : Geometry) : Carried s (execLoadGeometry tag args s) := by
  refine carried_request fun u => ?_
  (repeat' split)
  · exact .of_eq (by simp)
  · exact .of_eq (by simp)
  · rw [State.picture_answer]
    exact State.carries_swapIfIdle (.of_eq (by simp))

theorem carried_recenter (tag : Byte) : Carried s (execRecenter tag s) := by
  refine carried_request fun u => ?_
  split <;> rw [State.picture_answer]
  · exact u.carries_recentre
  · exact .of_eq (by simp)

theorem carried_frameStartUnit : Carried s (execFrameStartUnit s) := by
  refine carried_whenUp ?_
  have hstart : s.picture.Carries (if s.path.window.geometry.isNone then s.swap else s).picture := by
    split
    · exact State.carries_swap (.refl _)
    · exact .refl _
  refine iteInduction (motive := fun t : State => s.picture.Carries t.picture) (fun _ => ?_) fun _ => ?_
  · exact hstart.trans (.of_eq (by simp))
  · exact State.carries_numberedStart hstart

theorem carried_lineUnit (pixels : List Pixel) : Carried s (execLineUnit pixels s) := by
  refine carried_whenUp ?_
  split
  · exact s.carries_frameLine ‹_› _ _
  · exact .refl _
  · exact .of_eq (by split <;> simp)
  · exact .of_eq (by simp)

theorem carried_frameEndUnit : Carried s (execFrameEndUnit s) := by
  refine carried_whenUp ?_
  split
  next f _ _ _ _ => exact (State.carries_closeFrame (.refl _) f false).trans (.of_eq (by simp))
  · exact .refl _
  · exact .of_eq (by simp)
  · exact .refl _

theorem carried_sensorStall : Carried s (execSensorStall s) := by
  refine carried_whenUp ?_
  refine carries_expiry fun u => (State.carries_closeShort (.refl _)).trans (.of_eq ?_)
  simp

end

/-! ### The commands of the card -/

section
variable (s : State)

theorem carried_cardDetectRise : Carried s (execCardDetectRise s) := by
  refine carried_next ((Picture.Carries.of_eq (by simp)).trans (carried_whenUp (s := s.onPins _) ?_ _ rfl))
  exact .of_eq (by split <;> simp)

theorem carried_cardDetectFall : Carried s (execCardDetectFall s) := by
  refine carried_next ((Picture.Carries.of_eq (by simp)).trans (carried_whenUp (s := s.onPins _) ?_ _ rfl))
  exact .of_eq (by split <;> simp)

theorem carried_writeBlockAck (good : Bool) : Carried s (execWriteBlockAck good s) := by
  refine carried_whenUp (.of_eq ?_)
  dsimp only
  (repeat' split) <;> simp

end

/-! ### The commands of the monitor domain and of the link -/

section
variable (s : State)

theorem carried_currentResult (milliamps : Int) : Carried s (execCurrentResult milliamps s) := by
  refine carried_next ?_
  rw [State.picture_onConv]
  split
  · exact .of_eq (by simp)
  · exact State.carries_takeCurrent (.refl _) _

theorem carried_voltageResult (value : Int) : Carried s (execVoltageResult value s) := by
  refine carried_next ?_
  (repeat' split)
  · exact .of_eq (by simp)
  · exact .refl _
  · exact State.carries_endVisit (State.carries_handOn (.of_eq (by simp)) _ _)

theorem carried_covTimerExpiry : Carried s (execCovTimerExpiry s) := by
  refine carried_expiry fun u => State.carries_beginHold ?_ _
  rw [State.picture_notify]
  exact State.carries_settleSwitches (.of_eq (by simp))

theorem carried_duvCutExpiry : Carried s (execDuvCutExpiry s) := by
  refine carried_expiry fun u => ?_
  rw [State.picture_notify, State.picture_calibrate]
  exact State.carries_settleSwitches (.of_eq (by simp))

theorem carried_dischargeHoldoffExpiry : Carried s (execDischargeHoldoffExpiry s) := by
  refine carried_expiry fun u => ?_
  rw [State.picture_noticeClear]
  exact State.carries_settleSwitches (.of_eq (by simp))

theorem carried_chargeHoldoffExpiry : Carried s (execChargeHoldoffExpiry s) := by
  refine carried_expiry fun u => ?_
  rw [State.picture_noticeClear]
  exact State.carries_settleSwitches (.of_eq (by simp))

theorem carried_dischargeSwitch (tag : Byte) (on : Option Bool) : Carried s (execDischargeSwitch tag on s) := by
  refine carried_request fun u => ?_
  (repeat' split) <;> rw [State.picture_answer]
  · exact .refl _
  · exact State.carries_settleSwitches (.of_eq (by simp))
  · exact .refl _
  · exact .refl _
  · exact State.carries_settleSwitches (.of_eq (by simp))

theorem carried_balanceSet (tag : Byte) (mode : BalanceArg) : Carried s (execBalanceSet tag mode s) := by
  refine carried_request fun u => ?_
  split
  · exact .of_eq (by simp)
  · rw [State.picture_reply]
    exact State.carries_settleSwitches (.of_eq (by simp))

theorem carried_protectSetup (tag : Byte) (args : ProtectArgs) : Carried s (execProtectSetup tag args s) := by
  refine carried_request fun u => .of_eq ?_
  split
  · simp
  · split
    · simp
    · exact ((u.onProt _).picture_onLink rfl).trans (u.picture_onProt _)

theorem carried_chargeInhibit (tag : Byte) (on : Option Bool) : Carried s (execChargeInhibit tag on s) := by
  refine carried_request fun u => ?_
  split <;> rw [State.picture_answer]
  · exact .refl _
  all_goals split
  · exact .of_eq (by simp)
  · exact State.carries_moveCharger (.of_eq (by simp)) _ _ _
  · exact State.carries_moveCharger (.of_eq (by simp)) _ _ _
  · exact .of_eq (by simp)

theorem carried_qualifyDeadlineExpiry : Carried s (execQualifyDeadlineExpiry s) := by
  refine carried_expiry fun u => ?_
  dsimp only
  (repeat' split)
  all_goals exact State.carries_moveCharger (.of_eq (by simp)) _ _ _

theorem carried_pathReset (tag : Byte) (force : Option Bool) : Carried s (execPathReset tag force s) := by
  refine carried_request fun u => ?_
  (repeat' split)
  · exact .of_eq (by simp)
  · exact .of_eq (by simp)
  · exact State.carries_of_reset _ rfl

theorem carried_upstreamUnitSent : Carried s (execUpstreamUnitSent s) := by
  refine carried_whenUp ?_
  rw [State.picture_chooseUnit]
  exact s.carries_endUnit

end

/-! ### Every command -/

/-- Every command carries the laws of steadying and of the frame window. -/
theorem exec_carried (c : Instr) (s : State) : Carried s (exec c s) := by
  cases c with
  | powerOnReset => exact carried_next (State.carries_of_reset _ rfl)
  | pathResetEnd => exact carried_expiry fun u => .of_eq (by dsimp only; split <;> simp)
  | dataReadyEdge => exact carried_whenUp (.of_eq (by simp))
  | sampleReadComplete bytes => exact carried_sampleReadComplete s bytes
  | sampleIntegration => exact carried_sampleIntegration s
  | imuSilent => exact carried_whenUp (carries_expiry fun u => .of_eq (by simp))
  | shockHoldExpiry => exact carried_whenUp (carries_expiry fun u => .of_eq (by simp))
  | motionSetup tag args => exact carried_motionSetup s tag args
  | imuWrite tag address data => exact carried_request fun u => .of_eq (by split <;> simp)
  | imuWriteDone => exact carried_whenUp (.of_eq (by split <;> simp))
  | imuRead tag address count => exact carried_request fun u => .of_eq (by split <;> simp)
  | imuReadDone bytes => exact carried_whenUp (.of_eq (by (repeat' split) <;> simp))
  | lensTable tag axis spacing entries => exact carried_lensTable s tag axis spacing entries
  | steadyMode tag mode => exact carried_request fun u => .of_eq (by (repeat' split) <;> simp)
  | recenter tag => exact carried_recenter s tag
  | loadGeometry tag args => exact carried_loadGeometry s tag args
  | frameStartUnit => exact carried_frameStartUnit s
  | lineUnit pixels => exact carried_lineUnit s pixels
  | frameEndUnit => exact carried_frameEndUnit s
  | sensorStall => exact carried_sensorStall s
  | clipArm tag slot clip track lowWater => exact carried_request fun u => .of_eq (by (repeat' split) <;> simp)
  | extentAdd tag slot stream start length => exact carried_request fun u => .of_eq (by (repeat' split) <;> simp)
  | clipStart tag slot => exact carried_request fun u => .of_eq (by (repeat' split) <;> simp)
  | clipStop tag slot last => exact carried_request fun u => .of_eq (by (repeat' split) <;> simp)
  | clipDrop tag slot => exact carried_request fun u => .of_eq (by (repeat' split) <;> simp)
  | clipData slot n payload => exact carried_whenUp (.of_eq (by (repeat' split) <;> simp))
  | plainWrite start n payload => exact carried_whenUp (.of_eq (by split <;> simp))
  | cardDetectRise => exact carried_cardDetectRise s
  | cardDetectFall => exact carried_cardDetectFall s
  | cardDebounceExpiry => exact carried_whenUp (carries_expiry fun u => .of_eq (by simp))
  | cardStartResponse response => exact carried_whenUp (.of_eq (by split <;> simp))
  | startDeadlineExpiry => exact carried_whenUp (carries_expiry fun u => .of_eq (by simp))
  | cardRescan tag => exact carried_request fun u => .of_eq (by (repeat' split) <;> simp)
  | cardSetup tag retryLimit writeTimeout readWait => exact carried_request fun u => .of_eq (by split <;> simp)
  | transactionBegin => exact carried_whenUp (.of_eq (by split <;> simp))
  | cardCommandResponse good => exact carried_whenUp (.of_eq (by (repeat' split) <;> simp))
  | writeBlockAck good => exact carried_writeBlockAck s good
  | busyEnd => exact carried_whenUp (.of_eq (by (repeat' split) <;> simp))
  | busyTimeout => exact carried_whenUp (carries_expiry fun u => .of_eq (by split <;> simp))
  | cardResponseTimeout => exact carried_whenUp (carries_expiry fun u => .of_eq (by (repeat' split) <;> simp))
  | readBlockReceived block => exact carried_whenUp (.of_eq (by (repeat' split) <;> simp))
  | retryBegin => exact carried_whenUp (.of_eq (by split <;> simp))
  | cardRead tag payload => exact carried_request fun u => .of_eq (by split <;> simp)
  | readWaitTimeout => exact carried_whenUp (carries_expiry fun u => .of_eq (by dsimp only; split <;> simp))
  | bufferHandback => exact carried_whenUp (.of_eq (by split <;> simp))
  | closingPad slot => exact carried_whenUp (.of_eq (by (repeat' split) <;> simp))
  | summaryBuild slot => exact carried_whenUp (.of_eq (by split <;> simp))
  | currentResult milliamps => exact carried_currentResult s milliamps
  | voltageResult value => exact carried_voltageResult s value
  | currentRate tag rate => exact carried_request fun u => .of_eq (by split <;> simp)
  | scanList tag entries => exact carried_request fun u => .of_eq (by split <;> simp)
  | counterSet tag args => exact carried_request fun u => .of_eq (by split <;> simp)
  | scComparatorRise => exact carried_next (.of_eq (by simp))
  | scComparatorFall => exact carried_next (.of_eq (by simp))
  | scDelayExpiry => exact carried_expiry fun u => State.carries_dischargeTrip (.refl _) _ _
  | docTimerExpiry => exact carried_expiry fun u => State.carries_dischargeTrip (.refl _) _ _
  | cocTimerExpiry => exact carried_expiry fun u => State.carries_chargeTrip (.refl _)
  | covTimerExpiry => exact carried_covTimerExpiry s
  | duvWarningExpiry => exact carried_expiry fun u => .of_eq (by simp)
  | duvCutExpiry => exact carried_duvCutExpiry s
  | dischargeHoldoffExpiry => exact carried_dischargeHoldoffExpiry s
  | chargeHoldoffExpiry => exact carried_chargeHoldoffExpiry s
  | dischargeSwitch tag on => exact carried_dischargeSwitch s tag on
  | balanceSet tag mode => exact carried_balanceSet s tag mode
  | protectSetup tag args => exact carried_protectSetup s tag args
  | protectTransferExpiry signal => exact carried_expiry fun u => .of_eq (by simp)
  | chargeInhibit tag on => exact carried_chargeInhibit s tag on
  | chargeSetup tag args => exact carried_request fun u => .of_eq (by split <;> simp)
  | qualifyDeadlineExpiry => exact carried_qualifyDeadlineExpiry s
  | prechargeTimerExpiry => exact carried_expiry fun u => State.carries_moveCharger (.refl _) _ _ _
  | fastTimerExpiry => exact carried_expiry fun u => State.carries_moveCharger (.refl _) _ _ _
  | zeroDeadlineExpiry => exact carried_expiry fun u => State.carries_beginHold (.of_eq (u.picture_onChg _)) _
  | weakClearExpiry => exact carried_expiry fun u => State.carries_endHold (.of_eq (u.picture_onChg _)) _
  | pathReset tag force => exact carried_pathReset s tag force
  | headerError => exact carried_whenUp (.of_eq (by simp))
  | unknownRequest tag code => exact carried_request fun u => .of_eq (by simp)
  | upstreamUnitSent => exact carried_upstreamUnitSent s
  | identify tag => exact carried_request fun u => .of_eq (by simp)
  | statusRead tag => exact carried_request fun u => .of_eq (by simp)
  | energyRead tag => exact carried_request fun u => .of_eq (by simp)
  | controlPayloadFailure tag => exact carried_request fun u => .of_eq (by simp)

/-- Settles O16: the laws are read off the picture, which every command carries on, and which neither the queue nor the
time that passes moves. -/
theorem shakeAndWindowLawsAreKept : Obligations.ShakeAndWindowLawsAreKept := by
  refine ⟨kept_of_exec (fun c s t hlaw hexec => ?_) (fun s rest hlaw => hlaw) fun s hlaw => ?_,
    kept_of_exec (fun c s t hlaw hexec => ?_) (fun s rest hlaw => hlaw) fun s hlaw => ?_⟩
  · exact (exec_carried c s t hexec).1 hlaw
  · rwa [State.shakeLaw_iff, State.picture_elapse]
  · exact (exec_carried c s t hexec).2 hlaw
  · rwa [State.windowLaw_iff, State.picture_elapse]

end Sys2Proof.Machine
end

section
/-! PROOFS. Laws of the path domain that the monitor domain reaches through a reset and the emergency seal alone, and
that neither the time nor the link touches: every operation of the monitor domain, and every command of the monitor
domain and of the link, keeps such a law. -/

namespace Sys2Proof.Machine

/-- A law that reads neither the monitor domain nor the time nor the link, that the reset values of the path domain
meet, and that the emergency seal keeps. -/
structure Sheltered (law : State → Prop) : Prop where
  monitor : ∀ {s t : State}, law s → t.path = s.path → law t
  time : ∀ {s : State} (us : Nat), law s → law (s.elapse us)
  link : ∀ {s : State} (f : Link → Link), law s → law (s.onLink f)
  reset : ∀ {s : State}, s.path = .afterReset → law s
  emergencySeal : ∀ {s : State}, law s → law s.emergencySeal

/-- A step of the path domain keeps a law where its body does. -/
theorem law_whenUp {law : State → Prop} {s : State} (h : law s) {body : State → State} (hbody : law (body s)) :
    law (s.whenUp body) := by
  rcases s.whenUp_cases body with ⟨_, heq⟩ | ⟨_, heq⟩ <;> rw [heq]
  · exact hbody
  · exact h

namespace Sheltered
variable {law : State → Prop} (hl : Sheltered law) {s : State}
include hl

theorem onConv (h : law s) (f : Converter → Converter) : law (s.onConv f) := hl.monitor h rfl
theorem onProt (h : law s) (f : Protection → Protection) : law (s.onProt f) := hl.monitor h rfl
theorem onChg (h : law s) (f : Charger → Charger) : law (s.onChg f) := hl.monitor h rfl
theorem onEnergy (h : law s) (f : Energy → Energy) : law (s.onEnergy f) := hl.monitor h rfl
theorem onPins (h : law s) (f : Pins → Pins) : law (s.onPins f) := hl.monitor h rfl

/-! ### Notices, replies and the shapes of a command -/

theorem chooseUnit (h : law s) : law s.chooseUnit := hl.link _ h

theorem notify (h : law s) (n : Notice) : law (s.notify n) := by
  rcases s.notify_cases n with ⟨_, heq⟩ | ⟨_, heq⟩ <;> rw [heq]
  · exact hl.chooseUnit (hl.link _ h)
  · exact h

theorem reply (h : law s) (tag : Byte) (code : ReplyCode) (data : ReplyData) : law (s.reply tag code data) := by
  rcases s.reply_cases tag code data with ⟨_, heq⟩ | ⟨_, heq⟩ <;> rw [heq]
  · exact hl.chooseUnit (hl.link _ h)
  · exact h

theorem answer (h : law s) (tag : Byte) (code : ReplyCode) : law (s.answer tag code) := hl.reply h tag code .none

theorem release (h : law s) (n : Nat) : law (s.release n) := by
  rcases s.release_cases n with ⟨_, heq⟩ | ⟨_, heq⟩ <;> rw [heq]
  · exact h
  · exact hl.chooseUnit (hl.link _ h)

theorem request (h : law s) {tag : Byte} {kind : RequestKind} {body : State → State}
    (hbody : ∀ u, law u → law (body u)) : law (s.request tag kind body) := by
  rcases s.request_cases tag kind body with ⟨_, _, heq⟩ | ⟨_, _, heq⟩ | ⟨_, heq⟩ <;> rw [heq]
  · exact hbody _ (hl.link _ h)
  · exact hl.notify (hl.link _ h) _
  · exact h

theorem expiry (h : law s) {left : Option Nat} {act : State → State} (hact : ∀ u, law u → law (act u)) :
    law (s.expiry left act) := by
  rcases s.expiry_cases left act with ⟨_, heq⟩ | ⟨_, _, _, heq⟩ | ⟨us, _, _, heq⟩ <;> rw [heq]
  · exact h
  · exact h
  · exact hact _ (hl.time us h)

/-! ### The rail and the energy state (R151 to R153) -/

theorem settleRail (h : law s) : law s.settleRail := by
  rcases s.settleRail_cases with ⟨_, hsame⟩ | ⟨_, _, hreturn⟩ | ⟨_, _, hlost⟩
  · rwa [hsame]
  · rw [hreturn]; exact hl.reset rfl
  · rw [hlost]; exact hl.reset rfl

theorem settleSwitches (h : law s) : law s.settleSwitches := hl.settleRail (hl.onProt h _)

theorem settleEnergy (h : law s) (cause : EnergyCause) : law (s.settleEnergy cause) := by
  unfold State.settleEnergy
  dsimp only
  (repeat' split)
  · exact h
  · exact hl.emergencySeal (hl.notify (hl.onEnergy h _) _)
  · exact hl.notify (hl.onEnergy h _) _

theorem calibrate (h : law s) (charge : Int) : law (s.calibrate charge) := by
  unfold State.calibrate
  dsimp only
  split
  · exact hl.settleEnergy (hl.onConv h _) _
  · exact hl.onConv h _

theorem countCharge (h : law s) (i : Int) : law (s.countCharge i) := by
  unfold State.countCharge
  dsimp only
  split
  · exact hl.settleEnergy (hl.onConv h _) _
  · exact hl.onConv h _

/-! ### Trips, and input at the protection unit (R130, R131) -/

theorem dischargeTrip (h : law s) (c : Condition) (m : Option Int) : law (s.dischargeTrip c m) :=
  hl.notify (hl.settleSwitches (hl.onProt h _)) _

theorem chargeTrip (h : law s) : law s.chargeTrip := hl.notify (hl.settleSwitches (hl.onProt h _)) _

theorem noticeClear (h : law s) (c : Cleared) (cause : ClearCause) : law (s.noticeClear c cause) := hl.notify h _

theorem protectInput (h : law s) : law s.protectInput := by
  have hswitched := fun (f : Protection → Protection) => hl.settleSwitches (hl.onProt h f)
  unfold State.protectInput
  dsimp only
  (repeat' split)
  · exact hl.noticeClear (hl.noticeClear (hswitched _) _ _) _ _
  · exact hl.noticeClear (hswitched _) _ _
  · exact hl.noticeClear (hswitched _) _ _
  · exact hswitched _
  · exact h

/-! ### Charger -/

theorem settleDemand (h : law s) : law s.settleDemand := hl.onChg h _
theorem settleIccEff (h : law s) : law s.settleIccEff := hl.onChg h _

theorem moveCharger (h : law s) (new : ChargerState) (cause : ChargerCause) (causes : HoldCauses) :
    law (s.moveCharger new cause causes) := by
  have hnoticed := fun (f : Charger → Charger) n =>
    hl.notify (s := ((s.onChg f).settleDemand.onChg Charger.settleSetpoint).settleSwitches)
      (hl.settleSwitches (hl.onChg (hl.settleDemand (hl.onChg h f)) _)) n
  unfold State.moveCharger
  dsimp only
  (repeat' split)
  · exact h
  · exact hl.calibrate (hnoticed _ _) _
  · exact hnoticed _ _

theorem beginHold (h : law s) (cause : HoldCause) : law (s.beginHold cause) := by
  unfold State.beginHold
  (repeat' split)
  · exact hl.moveCharger h _ _ _
  · exact hl.onChg h _
  · exact h

theorem endHold (h : law s) (cause : HoldCause) : law (s.endHold cause) := by
  unfold State.endHold
  dsimp only
  (repeat' split)
  · exact hl.moveCharger (hl.onChg h _) _ _ _
  · exact hl.onChg h _
  · exact h

theorem chargerBattTemp (h : law s) (t : Int) : law (s.chargerBattTemp t) := by
  unfold State.chargerBattTemp
  dsimp only
  (repeat' split)
  · exact hl.beginHold (hl.settleIccEff (hl.onChg h _)) _
  · exact hl.endHold (hl.settleIccEff (hl.onChg h _)) _
  · exact hl.settleIccEff (hl.onChg h _)

theorem setDieHot (h : law s) (hot : Bool) : law (s.setDieHot hot) := by
  unfold State.setDieHot
  dsimp only
  (repeat' split)
  · exact hl.beginHold (hl.settleIccEff (hl.onChg h _)) _
  · exact hl.endHold (hl.settleIccEff (hl.onChg h _)) _
  · exact hl.settleIccEff (hl.onChg h _)

theorem chargerCell (h : law s) : law s.chargerCell := by
  have hdemand : law s.settleDemand.settleSwitches := hl.settleSwitches (hl.settleDemand h)
  unfold State.chargerCell
  (repeat' split)
  · exact hl.moveCharger h _ _ _
  · exact h
  · exact hl.moveCharger h _ _ _
  · exact h
  · exact hdemand
  · exact hl.moveCharger h _ _ _
  · exact hdemand
  · exact h

theorem chargerCurrent (h : law s) (i : Int) : law (s.chargerCurrent i) := by
  unfold State.chargerCurrent
  dsimp only
  split
  · refine iteInduction (motive := law) (fun _ => ?_) fun _ => ?_
    · exact hl.moveCharger (hl.onChg h _) _ _ _
    · exact hl.onChg h _
  · exact h

theorem inputAbsent (h : law s) : law s.inputAbsent :=
  hl.settleEnergy (hl.moveCharger (hl.settleRail (hl.onChg h _)) _ _ _) _

theorem inputPresent (h : law s) : law s.inputPresent := by
  have hrail := fun (f : Charger → Charger) => hl.settleRail (hl.onChg h f)
  refine hl.settleEnergy (hl.protectInput ?_) _
  exact iteInduction (motive := law) (fun _ => hl.moveCharger (hrail _) _ _ _) fun _ => hrail _

theorem judgeInput (h : law s) (mv : Int) : law (s.judgeInput mv) := by
  unfold State.judgeInput
  (repeat' split)
  · exact hl.inputAbsent h
  · exact h
  · exact hl.inputPresent h
  · exact hl.onChg h _
  · exact hl.onChg h _

theorem chargerInput (h : law s) (mv : Int) : law (s.chargerInput mv) :=
  iteInduction (motive := law) (fun _ => hl.onChg (hl.judgeInput h mv) _) fun _ => hl.judgeInput h mv

/-! ### Cells, results and visits -/

theorem evalCov (h : law s) : law s.evalCov := by
  unfold State.evalCov
  (repeat' split)
  · exact hl.endHold (hl.noticeClear (hl.settleSwitches (hl.onProt h _)) _ _) _
  · exact h
  · exact hl.onProt h _

theorem endWarning (h : law s) : law s.endWarning :=
  iteInduction (motive := law) (fun _ => hl.settleEnergy (hl.onProt h _) _) fun _ => h

theorem evalDuv (h : law s) : law s.evalDuv := by
  unfold State.evalDuv
  dsimp only
  (repeat' split)
  · exact h
  · exact hl.onProt h _
  · exact h
  · exact hl.endWarning (hl.onProt h _)
  · exact h

theorem takeCurrent (h : law s) (i : Int) : law (s.takeCurrent i) :=
  hl.chargerCurrent (hl.onProt (hl.countCharge (hl.onConv h _) i) _) i

theorem handOn (h : law s) (c : Channel) (v : Int) : law (s.handOn c v) := by
  have hcell : law (s.evalCells.chargerCell.settleEnergy .cell) :=
    hl.settleEnergy (hl.chargerCell (hl.evalDuv (hl.evalCov h))) _
  cases c with
  | cell1 => exact hcell
  | cell2 => exact hcell
  | input => exact hl.chargerInput h v
  | battTemp => exact hl.chargerBattTemp h v
  | dieTemp => exact hl.setDieHot h _
  | pack => exact h
  | current => exact h

theorem endVisit (h : law s) : law s.endVisit := by
  unfold State.endVisit
  split
  · exact hl.onConv h _
  · exact iteInduction (motive := law) (fun _ => hl.setDieHot (hl.onConv h _) _) fun _ => hl.onConv h _

end Sheltered
end Sys2Proof.Machine
end

section
/-! PROOFS. The commands of the monitor domain, and those of the link that only answer: each keeps every sheltered
law. -/

namespace Sys2Proof

/-- The commands of the monitor domain, and those of the link that only answer. -/
def Instr.ofMonitor (c : Instr) : Bool :=
  match c with
  | .powerOnReset | .currentResult _ | .voltageResult _ | .currentRate _ _ | .scanList _ _ | .counterSet _ _
  | .scComparatorRise | .scComparatorFall | .scDelayExpiry | .docTimerExpiry | .cocTimerExpiry | .covTimerExpiry
  | .duvWarningExpiry | .duvCutExpiry | .dischargeHoldoffExpiry | .chargeHoldoffExpiry | .dischargeSwitch _ _
  | .balanceSet _ _ | .protectSetup _ _ | .protectTransferExpiry _ | .chargeInhibit _ _ | .chargeSetup _ _
  | .qualifyDeadlineExpiry | .prechargeTimerExpiry | .fastTimerExpiry | .zeroDeadlineExpiry | .weakClearExpiry
  | .pathReset _ _ | .headerError | .unknownRequest _ _ | .identify _ | .statusRead _ | .energyRead _
  | .controlPayloadFailure _ => true
  | _ => false

end Sys2Proof

namespace Sys2Proof.Machine

/-- What a command answers meets a law. -/
def Ends (law : State → Prop) (o : Host.Outcome State Fault Refusal) : Prop := ∀ t, o = .next t → law t

theorem ends_next {law : State → Prop} {t : State} (h : law t) : Ends law (.next t) := by
  rintro _ ⟨⟩; exact h

namespace Sheltered
variable {law : State → Prop} (hl : Sheltered law) {s : State} (h : law s)
include hl h

/-! ### Converter and energy monitor -/

theorem ends_currentResult (milliamps : Int) : Ends law (execCurrentResult milliamps s) := by
  refine ends_next (hl.onConv ?_ _)
  split
  · exact hl.onConv h _
  · exact hl.takeCurrent h _

theorem ends_voltageResult (value : Int) : Ends law (execVoltageResult value s) := by
  refine ends_next ?_
  (repeat' split)
  · exact hl.onConv h _
  · exact h
  · exact hl.endVisit (hl.handOn (hl.onConv h _) _ _)

theorem ends_currentRate (tag : Byte) (rate : Nat) : Ends law (execCurrentRate tag rate s) := by
  refine ends_next (hl.request h fun u hu => ?_)
  split
  · exact hl.answer (hl.onConv hu _) _ _
  · exact hl.answer hu _ _

theorem ends_scanList (tag : Byte) (entries : List ScanArg) : Ends law (execScanList tag entries s) := by
  refine ends_next (hl.request h fun u hu => ?_)
  split
  · exact hl.answer hu _ _
  · exact hl.answer (hl.onConv hu _) _ _

theorem ends_counterSet (tag : Byte) (args : CounterArgs) : Ends law (execCounterSet tag args s) := by
  refine ends_next (hl.request h fun u hu => ?_)
  split
  · exact hl.answer (hl.settleEnergy (hl.onEnergy (hl.onConv hu _) _) _) _ _
  · exact hl.answer hu _ _

/-! ### Protection unit -/

theorem ends_duvCutExpiry : Ends law (execDuvCutExpiry s) :=
  ends_next (hl.expiry h fun _ hu => hl.notify (hl.calibrate (hl.settleSwitches (hl.onProt (hl.endWarning hu) _)) _) _)

theorem ends_dischargeSwitch (tag : Byte) (on : Option Bool) : Ends law (execDischargeSwitch tag on s) := by
  refine ends_next (hl.request h fun u hu => ?_)
  (repeat' split)
  · exact hl.answer hu _ _
  · exact hl.answer (hl.settleSwitches (hl.onProt hu _)) _ _
  · exact hl.answer hu _ _
  · exact hl.answer hu _ _
  · exact hl.answer (hl.settleSwitches (hl.onProt hu _)) _ _

theorem ends_balanceSet (tag : Byte) (mode : BalanceArg) : Ends law (execBalanceSet tag mode s) := by
  refine ends_next (hl.request h fun u hu => ?_)
  split
  · exact hl.answer hu _ _
  · exact hl.reply (hl.settleSwitches (hl.onProt hu _)) _ _ _

theorem ends_protectSetup (tag : Byte) (args : ProtectArgs) : Ends law (execProtectSetup tag args s) := by
  refine ends_next (hl.request h fun u hu => ?_)
  (repeat' split)
  · exact hl.answer hu _ _
  · exact hl.answer hu _ _
  · exact hl.link _ (hl.onProt hu _)

theorem answerProtect : law s.answerProtect := by
  unfold State.answerProtect
  split
  · exact h
  · exact hl.answer (hl.link _ h) _ _

/-! ### Charger -/

theorem ends_chargeInhibit (tag : Byte) (on : Option Bool) : Ends law (execChargeInhibit tag on s) := by
  refine ends_next (hl.request h fun u hu => ?_)
  split
  · exact hl.answer hu _ _
  all_goals
    refine hl.answer ?_ _ _
    split
  · exact hl.onChg hu _
  · exact hl.moveCharger (hl.onChg hu _) _ _ _
  · exact hl.moveCharger (hl.onChg hu _) _ _ _
  · exact hl.onChg hu _

theorem ends_chargeSetup (tag : Byte) (args : ChargeSettings) : Ends law (execChargeSetup tag args s) := by
  refine ends_next (hl.request h fun u hu => ?_)
  split
  · exact hl.answer (hl.settleIccEff (hl.onChg hu _)) _ _
  · exact hl.answer hu _ _

theorem ends_qualifyDeadlineExpiry : Ends law (execQualifyDeadlineExpiry s) := by
  refine ends_next (hl.expiry h fun u hu => ?_)
  dsimp only
  (repeat' split)
  all_goals exact hl.moveCharger (hl.onChg hu _) _ _ _

/-! ### Reset -/

theorem ends_pathReset (tag : Byte) (force : Option Bool) : Ends law (execPathReset tag force s) := by
  refine ends_next (hl.request h fun u hu => ?_)
  (repeat' split)
  · exact hl.answer hu _ _
  · exact hl.answer hu _ _
  · exact hl.reset rfl

/-! ### Every one of these commands -/

/-- A command of the monitor domain, or one that only answers, keeps a sheltered law. -/
theorem exec_ofMonitor {c : Instr} (hc : c.ofMonitor = true) : Ends law (exec c s) := by
  cases c with
  | powerOnReset => exact ends_next (hl.reset rfl)
  | currentResult milliamps => exact hl.ends_currentResult h milliamps
  | voltageResult value => exact hl.ends_voltageResult h value
  | currentRate tag rate => exact hl.ends_currentRate h tag rate
  | scanList tag entries => exact hl.ends_scanList h tag entries
  | counterSet tag args => exact hl.ends_counterSet h tag args
  | scComparatorRise => exact ends_next (hl.onPins (hl.onProt h _) _)
  | scComparatorFall => exact ends_next (hl.onPins (hl.onProt h _) _)
  | scDelayExpiry => exact ends_next (hl.expiry h fun u hu => hl.dischargeTrip hu _ _)
  | docTimerExpiry => exact ends_next (hl.expiry h fun u hu => hl.dischargeTrip hu _ _)
  | cocTimerExpiry => exact ends_next (hl.expiry h fun u hu => hl.chargeTrip hu)
  | covTimerExpiry =>
    exact ends_next (hl.expiry h fun u hu => hl.beginHold (hl.notify (hl.settleSwitches (hl.onProt hu _)) _) _)
  | duvWarningExpiry => exact ends_next (hl.expiry h fun u hu => hl.settleEnergy (hl.onProt hu _) _)
  | duvCutExpiry => exact hl.ends_duvCutExpiry h
  | dischargeHoldoffExpiry =>
    exact ends_next (hl.expiry h fun u hu => hl.noticeClear (hl.settleSwitches (hl.onProt hu _)) _ _)
  | chargeHoldoffExpiry =>
    exact ends_next (hl.expiry h fun u hu => hl.noticeClear (hl.settleSwitches (hl.onProt hu _)) _ _)
  | dischargeSwitch tag on => exact hl.ends_dischargeSwitch h tag on
  | balanceSet tag mode => exact hl.ends_balanceSet h tag mode
  | protectSetup tag args => exact hl.ends_protectSetup h tag args
  | protectTransferExpiry signal =>
    exact ends_next (hl.expiry h fun u hu => hl.answerProtect (hl.onPins (hl.onProt hu _) _))
  | chargeInhibit tag on => exact hl.ends_chargeInhibit h tag on
  | chargeSetup tag args => exact hl.ends_chargeSetup h tag args
  | qualifyDeadlineExpiry => exact hl.ends_qualifyDeadlineExpiry h
  | prechargeTimerExpiry => exact ends_next (hl.expiry h fun u hu => hl.moveCharger hu _ _ _)
  | fastTimerExpiry => exact ends_next (hl.expiry h fun u hu => hl.moveCharger hu _ _ _)
  | zeroDeadlineExpiry => exact ends_next (hl.expiry h fun u hu => hl.beginHold (hl.onChg hu _) _)
  | weakClearExpiry => exact ends_next (hl.expiry h fun u hu => hl.endHold (hl.onChg hu _) _)
  | pathReset tag force => exact hl.ends_pathReset h tag force
  | headerError => exact ends_next (law_whenUp h (hl.notify (hl.link _ h) _))
  | unknownRequest tag code => exact ends_next (hl.request h fun u hu => hl.answer hu _ _)
  | identify tag => exact ends_next (hl.request h fun u hu => hl.reply hu _ _ _)
  | statusRead tag => exact ends_next (hl.request h fun u hu => hl.reply hu _ _ _)
  | energyRead tag => exact ends_next (hl.request h fun u hu => hl.reply hu _ _ _)
  | controlPayloadFailure tag => exact ends_next (hl.request h fun u hu => hl.answer (hl.link _ hu) _ _)
  | _ => cases hc

end Sheltered
end Sys2Proof.Machine
end

section
/-! PROOFS. One clip slot: what the closing law and the accounting of the records (R101 to R103, R109) make of each
operation on a slot. -/

namespace Sys2Proof.Machine

/-! ### Sums of records -/

/-- A saturating counter raised by some number, or left as it was. -/
def raisedBy (n old new : Nat) : Prop := new = satAdd old n ∨ (n = 0 ∧ new = old)

theorem raisedBy_zero (n : Nat) : raisedBy 0 n n := .inr ⟨rfl, rfl⟩

theorem raisedBy_satAdd (n old : Nat) : raisedBy n old (satAdd old n) := .inl rfl

theorem raisedBy.cases {n old new : Nat} (h : raisedBy n old new) :
    new = counterMax ∨ (new = old + n ∧ old ≠ counterMax) ∨ (n = 0 ∧ new = old) := by
  rcases h with rfl | h
  · rcases satAdd_cases old n with ⟨hle, heq⟩ | ⟨_, heq⟩
    · omega
    · exact .inl heq
  · exact .inr (.inr h)

/-- Written, lost and held together gain k records: the sum stands k frames further, or a count has saturated. -/
theorem addsUp.raised {w l h w' l' h' m n k : Nat} {frames : BitVec 32} (hsum : addsUp w l h frames)
    (hw : raisedBy m w w') (hl : raisedBy n l l') (hheld : h' + m + n = h + k) :
    addsUp w' l' h' (frames + BitVec.ofNat 32 k) := by
  have hmax : counterMax = 4294967295 := rfl
  rcases hw.cases with hw' | hw' <;> rcases hl.cases with hl' | hl'
  · exact .inl hw'
  · exact .inl hw'
  · exact .inr (.inl hl')
  rcases hsum with hsat | hsat | hsum
  · exact .inl (by omega)
  · exact .inr (.inl (by omega))
  · refine .inr (.inr ?_)
    rw [← hsum, ← BitVec.ofNat_add]
    congr 1
    omega

theorem realRecords_append (l l' : List FrameRecord) : realRecords (l ++ l') = realRecords l + realRecords l' := by
  simp [realRecords]

theorem realRecords_single {r : FrameRecord} (h : r.bandCount ≠ 0) : realRecords [r] = 1 := by simp [realRecords, h]

/-- A padding record is no real one (R104). -/
theorem realRecords_padRecords (l : List FrameRecord) : realRecords (padRecords l) = realRecords l := by
  rw [padRecords, realRecords_append]
  simp [realRecords, FrameRecord.padding]

namespace Slot

/-! ### The closing law -/

theorem judgeOwed_eq (s : Slot) :
    s.judgeOwed = { s with step := if s.step = .owed ∧ s.nextTrack = s.stopFrame then .pad else s.step } := by
  unfold judgeOwed; split <;> rfl

/-- Step 1 judged keeps the closing law: it ends only with the next track frame at the stop frame (R102). -/
theorem ClosingLaw.judgeOwed {s : Slot} (h : s.ClosingLaw) : s.judgeOwed.ClosingLaw := by
  obtain ⟨hopen, htaken⟩ := h
  rw [judgeOwed_eq]
  by_cases hdone : s.step = .owed ∧ s.nextTrack = s.stopFrame
  · rw [if_pos hdone]
    refine ⟨fun hstate => ?_, fun _ _ => hdone.2⟩
    rw [hopen hstate] at hdone; cases hdone.1
  · rw [if_neg hdone]; exact ⟨hopen, htaken⟩

/-- A slot at step 1 meets the closing law. -/
theorem closingLaw_of_owed {s : Slot} (hstate : s.state = .closing) (hstep : s.step = .owed) : s.ClosingLaw :=
  ⟨fun h => absurd hstate h, fun _ h => by rw [hstep] at h; rcases h with h | h | h <;> cases h⟩

theorem raiseStop_eq (s : Slot) : ∃ stop, s.raiseStop = { s with stopFrame := stop } := by
  unfold raiseStop; (repeat' split) <;> exact ⟨_, rfl⟩

theorem cutStop_eq (s : Slot) (counter : FrameNo) : ∃ stop, s.cutStop counter = { s with stopFrame := stop } := by
  unfold cutStop; (repeat' split) <;> exact ⟨_, rfl⟩

/-- Of the slot, the entry to CLOSING moves the state, the cause, the stop frame and the step alone, and it meets the
closing law (R101 to R103). -/
theorem close_eq (s : Slot) (stop : FrameNo) (cause : SealCause) (idle : Bool) (counter : FrameNo) :
    (∃ last step, s.close stop cause idle counter =
      { s with state := .closing, cause := some cause, stopFrame := last, step := step }) ∧
    (s.close stop cause idle counter).ClosingLaw := by
  unfold close
  dsimp only
  split
  · obtain ⟨raised, hraised⟩ :=
      raiseStop_eq { s with state := .closing, stopFrame := some stop, cause := some cause }
    have hset : ∃ last, (if idle then
          (raiseStop { s with state := .closing, stopFrame := some stop, cause := some cause }).cutStop counter
        else raiseStop { s with state := .closing, stopFrame := some stop, cause := some cause }) =
        { s with state := .closing, cause := some cause, stopFrame := last } := by
      rw [hraised]
      split
      · obtain ⟨last, hlast⟩ :=
          cutStop_eq { s with state := .closing, stopFrame := raised, cause := some cause } counter
        exact ⟨last, hlast⟩
      · exact ⟨raised, rfl⟩
    obtain ⟨last, hlast⟩ := hset
    rw [hlast]
    exact ⟨⟨last, _, judgeOwed_eq _⟩, (closingLaw_of_owed rfl rfl).judgeOwed⟩
  · exact ⟨⟨some stop, .pad, rfl⟩, fun h => absurd rfl h, fun htrack => absurd htrack ‹_›⟩

/-! ### The two laws together -/

/-- The closing law, and with it, where it is asked for, the record law: ClosingLawIsKept states the one alone and the
two together, and they are proved at once. -/
def Booked (full : Prop) (s : Slot) : Prop := s.ClosingLaw ∧ (full → s.RecordLaw)

theorem booked_freed (full : Prop) : Slot.freed.Booked full := by
  refine ⟨⟨fun _ => rfl, nofun⟩, fun _ => ⟨nofun, fun h => (by rcases h with h | h <;> cases h), ?_⟩⟩
  intro b x h
  have hfree : Slot.freed.buffers[b] = .free := Vector.getElem_replicate _
  rw [hfree] at h; cases h

theorem booked_armed (full : Prop) (clip : Nat) (track : Bool) (lowWater : Nat) :
    (Slot.armed clip track lowWater).Booked full := by
  have hfree : ∀ b : Fin 2, (Slot.armed clip track lowWater).buffers[b] = .free := fun b => Vector.getElem_replicate _
  refine ⟨⟨fun _ => rfl, fun _ h => by rcases h with h | h | h <;> cases h⟩, fun _ =>
    ⟨fun _ => ⟨rfl, rfl, hfree⟩, fun h => (by rcases h with h | h <;> cases h), fun b x h => ?_⟩⟩
  rw [hfree] at h; cases h

variable {full : Prop} {s : Slot}

/-- A clip that starts has taken no record (R62). -/
theorem Booked.started (h : s.Booked full) (hstate : s.state = .armed) (counter : FrameNo) :
    (s.started counter).Booked full := by
  obtain ⟨⟨hopen, _⟩, hrecords⟩ := h
  have hstep : s.step = .none := hopen (by simp [hstate])
  refine ⟨⟨fun _ => hstep, fun _ h => ?_⟩, fun hfull => ?_⟩
  · have : s.step = .pad ∨ s.step = .drain ∨ s.step = .sealing := h
    simp [hstep] at this
  · obtain ⟨harmed, _, hsummary⟩ := hrecords hfull
    obtain ⟨hwritten, hlost, hfree⟩ := harmed hstate
    refine ⟨nofun, fun _ _ => ⟨counter, counter, rfl, rfl, .inr (.inr ?_)⟩, hsummary⟩
    have hheld : s.heldRecords = 0 := by
      rw [heldRecords, show s.buffers[0] = .free from hfree 0, show s.buffers[1] = .free from hfree 1]; rfl
    show BitVec.ofNat 32 (s.recordsWritten + s.recordsLost + s.heldRecords) = counter - counter
    simp [hwritten, hlost, hheld]

theorem Booked.close (h : s.Booked full) (hstate : s.state = .recording) (stop : FrameNo) (cause : SealCause)
    (idle : Bool) (counter : FrameNo) : (s.close stop cause idle counter).Booked full := by
  obtain ⟨⟨last, step, heq⟩, hclosing⟩ := s.close_eq stop cause idle counter
  refine ⟨hclosing, fun hfull => ?_⟩
  obtain ⟨_, hsum, hsummary⟩ := h.2 hfull
  rw [heq]
  exact ⟨nofun, fun _ => hsum (.inl hstate), hsummary⟩

theorem Booked.judgeOwed (h : s.Booked full) : s.judgeOwed.Booked full :=
  ⟨h.1.judgeOwed, fun hfull => by rw [judgeOwed_eq]; exact h.2 hfull⟩

theorem cutOwed_state (s : Slot) (counter : FrameNo) : (s.cutOwed counter).state = s.state := by
  obtain ⟨stop, hstop⟩ := s.cutStop_eq counter
  unfold cutOwed
  split
  · rw [hstop, judgeOwed_eq]
  · rfl

theorem Booked.cutOwed (h : s.Booked full) (counter : FrameNo) : (s.cutOwed counter).Booked full := by
  unfold Slot.cutOwed
  split
  next hcut =>
    obtain ⟨stop, hstop⟩ := s.cutStop_eq counter
    rw [hstop]
    exact Booked.judgeOwed ⟨closingLaw_of_owed hcut.1 hcut.2, h.2⟩
  · exact h

end Slot
end Sys2Proof.Machine
end

section
/-! PROOFS. One clip slot, further: frame records taken, lost and written, the padding and the summary of its closing
(R97 to R106), as functions on the slot alone, and what they make of the two laws. -/

namespace Sys2Proof.Machine
namespace Slot

/-! ### Records on a slot -/

/-- State.placeBuffer, on the slot alone. -/
def placed (s : Slot) (b : Fin 2) (records : List FrameRecord) : Slot :=
  match s.trackCursor.next with
  | some _ => { s.setBuffer b (.queuedTrack records) with trackCursor := s.trackCursor.advance s.trackList }
  | none => { s.setBuffer b .free with recordsLost := satAdd s.recordsLost (realRecords records) }

/-- State.appendRecord, on the slot alone. -/
def appended (s : Slot) (r : FrameRecord) : Slot :=
  match s.filling with
  | some (b, records) =>
    if records.length + 1 = Config.bufferRecords then s.placed b (records ++ [r])
    else s.setBuffer b (.filling (records ++ [r]))
  | none =>
    match s.freeBuffer with
    | some b => s.setBuffer b (.filling [r])
    | none => { s with recordsLost := satAdd s.recordsLost 1 }

/-- The first record timestamp noted at the record of the start frame (R97). -/
def stamped (s : Slot) (r : FrameRecord) : Slot :=
  if s.startFrame = some r.number then { s with firstStamp := some r.start } else s

/-- The next track frame moved on by one. -/
def advanced (s : Slot) : Slot := { s with nextTrack := s.nextTrack.map (· + 1) }

/-- State.offerRecord, on the slot alone. -/
def offered (r : FrameRecord) (s : Slot) : Slot :=
  if s.covers r.number then
    if s.track then ((s.stamped r).advanced.appended r).judgeOwed else s.stamped r
  else s

theorem stamped_eq (s : Slot) (r : FrameRecord) :
    s.stamped r = { s with firstStamp := if s.startFrame = some r.number then some r.start else s.firstStamp } := by
  unfold stamped; split <;> rfl

/-- Placing a buffer moves the buffers, the track cursor and the count of lost records alone. -/
theorem placed_eq (s : Slot) (b : Fin 2) (records : List FrameRecord) :
    ∃ buffers cursor lost, s.placed b records =
      { s with buffers := buffers, trackCursor := cursor, recordsLost := lost } := by
  unfold placed; split <;> exact ⟨_, _, _, rfl⟩

theorem appended_eq (s : Slot) (r : FrameRecord) :
    ∃ buffers cursor lost, s.appended r =
      { s with buffers := buffers, trackCursor := cursor, recordsLost := lost } := by
  unfold appended
  (repeat' split)
  · exact placed_eq _ _ _
  all_goals exact ⟨_, _, _, rfl⟩

theorem filling_eq_some {s : Slot} {b : Fin 2} {records : List FrameRecord} (h : s.filling = some (b, records)) :
    s.buffers[b] = .filling records := by
  unfold filling at h
  split at h
  · cases h; assumption
  · cases h; assumption
  · cases h

theorem freeBuffer_eq_some {s : Slot} {b : Fin 2} (h : s.freeBuffer = some b) : s.buffers[b] = .free := by
  unfold freeBuffer at h
  (repeat' split at h) <;> cases h <;> assumption

/-- The frames that a clip takes (R97): of a slot RECORDING, or CLOSING before step 2, from the start frame up to the
stop frame. -/
theorem covers_iff (s : Slot) (n : FrameNo) :
    s.covers n = true ↔ (s.state = .recording ∨ s.state = .closing) ∧ (s.step = .none ∨ s.step = .owed) ∧
      ∃ start, s.startFrame = some start ∧ (n - start).toNat < 2147483648 ∧
        ∀ stop, s.stopFrame = some stop → (n - start).toNat < (stop - start).toNat := by
  simp only [covers, Bool.and_eq_true, Bool.or_eq_true, beq_iff_eq, and_assoc]
  refine and_congr_right fun _ => and_congr_right fun _ => ?_
  rcases s.startFrame with _ | start
  · simp
  · rcases s.stopFrame with _ | stop <;> simp only [Bool.and_eq_true, decide_eq_true_eq] <;> simp [frameOffset]

/-! ### What a slot has counted and holds -/

/-- The second slot has written, lost or holds k records more than the first, and holds no summary that the first does
not. -/
structure Counts (k : Nat) (a b : Slot) : Prop where
  counted : ∃ written lost, raisedBy written a.recordsWritten b.recordsWritten ∧
    raisedBy lost a.recordsLost b.recordsLost ∧ b.heldRecords + written + lost = a.heldRecords + k
  summary : ∀ (i : Fin 2) x, b.buffers[i] = .queuedSummary x → a.buffers[i] = .queuedSummary x

theorem heldRecords_setBuffer (s : Slot) (b : Fin 2) (t : TrackBuffer) :
    (s.setBuffer b t).heldRecords + s.buffers[b].real = s.heldRecords + t.real := by
  match b with
  | 0 => simp [heldRecords, setBuffer]; omega
  | 1 => simp [heldRecords, setBuffer]; omega

theorem setBuffer_buffers (s : Slot) (b i : Fin 2) (t : TrackBuffer) :
    (s.setBuffer b t).buffers[i] = if b = i then t else s.buffers[i] := by
  simp [setBuffer, Vector.getElem_set, Fin.ext_iff]

/-- A buffer replaced by one that is no summary. -/
theorem counts_setBuffer {a b : Slot} {i : Fin 2} {t : TrackBuffer} {written lost k : Nat}
    (hbuffers : b.buffers = (a.setBuffer i t).buffers) (hplain : ∀ x, t ≠ .queuedSummary x)
    (hwritten : raisedBy written a.recordsWritten b.recordsWritten) (hlost : raisedBy lost a.recordsLost b.recordsLost)
    (hsum : t.real + written + lost = a.buffers[i].real + k) : Counts k a b := by
  have hheld : b.heldRecords = (a.setBuffer i t).heldRecords := by simp only [heldRecords, hbuffers]
  refine ⟨⟨written, lost, hwritten, hlost, ?_⟩, fun j x h => ?_⟩
  · have := a.heldRecords_setBuffer i t
    omega
  · rw [hbuffers, setBuffer_buffers] at h
    split at h
    · exact absurd h (hplain x)
    · exact h

theorem counts_placed {s : Slot} {b : Fin 2} {records : List FrameRecord} {k : Nat}
    (h : realRecords records = s.buffers[b].real + k) : Counts k s (s.placed b records) := by
  unfold placed
  split
  · exact counts_setBuffer (t := .queuedTrack records) rfl nofun (raisedBy_zero _) (raisedBy_zero _) h
  · refine counts_setBuffer (t := .free) rfl nofun (raisedBy_zero _) (raisedBy_satAdd _ _) ?_
    simpa [TrackBuffer.real] using h

/-- A record appended is held, or lost with the full buffer, or lost at arrival: in each case one record more (R98). -/
theorem counts_appended (s : Slot) {r : FrameRecord} (hr : r.bandCount ≠ 0) : Counts 1 s (s.appended r) := by
  have happend : ∀ records, realRecords (records ++ [r]) = realRecords records + 1 := fun records => by
    rw [realRecords_append, realRecords_single hr]
  unfold appended
  split
  next b records hfilling =>
    have hreal : realRecords (records ++ [r]) = s.buffers[b].real + 1 := by
      rw [happend, filling_eq_some hfilling]; rfl
    split
    · exact counts_placed hreal
    · exact counts_setBuffer (t := .filling (records ++ [r])) rfl nofun (raisedBy_zero _) (raisedBy_zero _) hreal
  · split
    next b hfree =>
      refine counts_setBuffer (t := .filling [r]) rfl nofun (raisedBy_zero _) (raisedBy_zero _) ?_
      rw [freeBuffer_eq_some hfree]
      exact realRecords_single hr
    · exact ⟨⟨0, 1, raisedBy_zero _, raisedBy_satAdd _ _, rfl⟩, fun _ _ h => h⟩

/-- The record law after k records more, with the next track frame k frames further. -/
theorem RecordLaw.counts {a b : Slot} {k : Nat} (h : a.RecordLaw) (hc : Counts k a b)
    (hopen : a.state = .recording ∨ a.state = .closing) (hstate : b.state = a.state) (htrack : b.track = a.track)
    (hstart : b.startFrame = a.startFrame) (hnext : b.nextTrack = a.nextTrack.map (· + BitVec.ofNat 32 k)) :
    b.RecordLaw := by
  obtain ⟨_, hsum, hsummary⟩ := h
  obtain ⟨⟨written, lost, hwritten, hlost, hheld⟩, hold⟩ := hc
  refine ⟨fun harmed => ?_, fun _ ht => ?_, fun i x hx => hsummary i x (hold i x hx)⟩
  · rw [← hstate, harmed] at hopen
    rcases hopen with h | h <;> cases h
  · obtain ⟨start, next, hs, hn, hadds⟩ := hsum hopen (htrack ▸ ht)
    refine ⟨start, next + BitVec.ofNat 32 k, hstart.trans hs, by rw [hnext, hn]; rfl, ?_⟩
    rw [show next + BitVec.ofNat 32 k - start = next - start + BitVec.ofNat 32 k by ring]
    exact hadds.raised hwritten hlost hheld

/-! ### The two laws -/

/-- A slot before step 2 meets the closing law. -/
theorem closingLaw_of_early {s : Slot} (hopen : s.state ≠ .closing → s.step = .none)
    (hstep : s.step = .none ∨ s.step = .owed) : s.ClosingLaw := by
  refine ⟨hopen, fun _ hlate => ?_⟩
  rcases hstep with h | h <;> rw [h] at hlate <;> simp at hlate

variable {full : Prop} {s : Slot}

theorem offered_state (s : Slot) (r : FrameRecord) : (s.offered r).state = s.state := by
  obtain ⟨_, _, _, happended⟩ := (s.stamped r).advanced.appended_eq r
  unfold offered
  (repeat' split)
  · rw [judgeOwed_eq, happended, stamped_eq]; rfl
  · rw [stamped_eq]
  · rfl

/-- A record offered to a slot keeps the laws: one record more, and the next track frame one further (R97, R98,
R109). -/
theorem Booked.offered (h : s.Booked full) {r : FrameRecord} (hr : full → r.bandCount ≠ 0) :
    (s.offered r).Booked full := by
  have hstamped : (s.stamped r).Booked full := by rw [stamped_eq]; exact h
  by_cases hcovers : s.covers r.number = true
  · obtain ⟨hopen, hstep, _⟩ := (s.covers_iff r.number).mp hcovers
    rw [Slot.offered, if_pos hcovers]
    split
    · refine Booked.judgeOwed ⟨?_, fun hfull => ?_⟩
      · obtain ⟨_, _, _, happended⟩ := (s.stamped r).advanced.appended_eq r
        rw [happended, stamped_eq]
        exact closingLaw_of_early h.1.1 hstep
      · have hcounts := (s.stamped r).advanced.counts_appended (hr hfull)
        obtain ⟨_, _, _, happended⟩ := (s.stamped r).advanced.appended_eq r
        rw [happended, stamped_eq] at hcounts ⊢
        exact (h.2 hfull).counts ⟨hcounts.1, hcounts.2⟩ hopen rfl rfl rfl rfl
    · exact hstamped
  · rw [Slot.offered, if_neg hcovers]; exact h

/-- The pad of step 2 keeps the laws: a padded buffer holds the records it held (R104). -/
theorem Booked.padded (h : s.Booked full) (hdue : s.padDue = true) :
    Booked full { (match s.filling with
      | none => s
      | some (b, records) => s.placed b (padRecords records)) with step := .drain } := by
  simp only [padDue, Bool.and_eq_true, beq_iff_eq] at hdue
  obtain ⟨hclosing, hpad⟩ := hdue
  have hlast : s.track = true → s.nextTrack = s.stopFrame := fun htrack => h.1.2 htrack (.inl hpad)
  split
  · exact ⟨⟨fun hstate => absurd hclosing hstate, fun htrack _ => hlast htrack⟩, h.2⟩
  next b records hfilling =>
    have hcounts : Counts 0 s (s.placed b (padRecords records)) :=
      counts_placed (by rw [realRecords_padRecords, filling_eq_some hfilling]; rfl)
    obtain ⟨_, _, _, hplaced⟩ := s.placed_eq b (padRecords records)
    rw [hplaced] at hcounts ⊢
    refine ⟨⟨fun hstate => absurd hclosing hstate, fun htrack _ => hlast htrack⟩, fun hfull => ?_⟩
    exact (h.2 hfull).counts ⟨hcounts.1, hcounts.2⟩ (.inr hclosing) rfl rfl rfl (by simp)

/-- A summary built with both buffers free accounts for every frame of the clip (R105, R109). -/
theorem Booked.summarised (h : s.Booked full) (hclosing : s.state = .closing) (hdrain : s.step = .drain)
    (hfree0 : s.buffers[0] = .free) (hfree1 : s.buffers[1] = .free) :
    Booked full { s.setBuffer 0 (.queuedSummary s.summary) with step := .sealing } := by
  have hlast : s.track = true → s.nextTrack = s.stopFrame := fun htrack => h.1.2 htrack (.inr (.inl hdrain))
  refine ⟨⟨fun hstate => absurd hclosing hstate, fun htrack _ => hlast htrack⟩, fun hfull => ?_⟩
  obtain ⟨_, hsum, hsummary⟩ := h.2 hfull
  have hnone : s.heldRecords = 0 := by rw [heldRecords, hfree0, hfree1]; rfl
  have hheld : (s.setBuffer 0 (.queuedSummary s.summary)).heldRecords = s.heldRecords := by
    have := s.heldRecords_setBuffer 0 (.queuedSummary s.summary)
    rw [show s.buffers[(0 : Fin 2)] = .free from hfree0] at this
    exact this
  refine ⟨fun harmed => ?_, fun hopen htrack => ?_, fun i x hx htrack => ?_⟩
  · exact absurd (hclosing.symm.trans harmed) nofun
  · obtain ⟨start, next, hstart, hnext, hadds⟩ := hsum hopen htrack
    exact ⟨start, next, hstart, hnext, hheld ▸ hadds⟩
  · have hx' : (s.setBuffer 0 (.queuedSummary s.summary)).buffers[i] = .queuedSummary x := hx
    rw [setBuffer_buffers] at hx'
    split at hx'
    · cases hx'
      obtain ⟨start, next, hstart, hnext, hadds⟩ := hsum (.inr hclosing) htrack
      exact ⟨start, next, hstart, (hlast htrack).symm.trans hnext, hnone ▸ hadds⟩
    · exact hsummary i x hx' htrack

/-- A track buffer handed back: its records are counted, written or lost (R100). -/
theorem Booked.handedBack (h : s.Booked full) {b : Fin 2} {records : List FrameRecord}
    (hqueued : s.buffers[b] = .queuedTrack records) (hstate : s.state ≠ .free) {written lost written' lost' : Nat}
    (hwritten : raisedBy written s.recordsWritten written') (hlost : raisedBy lost s.recordsLost lost')
    (hall : written + lost = realRecords records) :
    Booked full { s.setBuffer b .free with recordsWritten := written', recordsLost := lost' } := by
  refine ⟨h.1, fun hfull => ?_⟩
  obtain ⟨harmed, _, _⟩ := h.2 hfull
  have hopen : s.state = .recording ∨ s.state = .closing := by
    rcases hs : s.state with _ | _ | _ | _
    · exact absurd hs hstate
    · rw [(harmed hs).2.2 b] at hqueued; cases hqueued
    · exact .inl rfl
    · exact .inr rfl
  have hcounts : Counts 0 s { s.setBuffer b .free with recordsWritten := written', recordsLost := lost' } := by
    refine counts_setBuffer (i := b) (t := .free) rfl nofun hwritten hlost ?_
    rw [hqueued]
    exact (congrArg (· + lost) (Nat.zero_add written)).trans hall
  exact (h.2 hfull).counts hcounts hopen rfl rfl rfl (by simp [setBuffer])

end Slot
end Sys2Proof.Machine
end

section
/-! PROOFS. Records offered and buffers placed (R97 to R99), in full: one slot moves, as the functions on it say, and a
buffer that fills up with a track block left joins the write queue. -/

namespace Sys2Proof.Machine

/-- The buffer that the next record fills up, with the track block it is to be written to (R98, R99). -/
def Slot.fills (s : Slot) : Option (Fin 2 × Nat) :=
  s.filling.bind fun x => if x.2.length = 7 then s.trackCursor.next.map (Prod.mk x.1) else none

theorem Slot.fills_eq_some {s : Slot} {b : Fin 2} {block : Nat} :
    s.fills = some (b, block) ↔
      ∃ records, s.filling = some (b, records) ∧ records.length = 7 ∧ s.trackCursor.next = some block := by
  rcases hf : s.filling with _ | ⟨c, records⟩
  · simp [fills, hf]
  · by_cases hlen : records.length = 7
    · simp [fills, hf, hlen, and_comm]
    · simp [fills, hf, hlen]

namespace State

theorem onSlot_congr (s : State) (i : Fin 4) {f g : Slot → Slot} (h : f (s.slot i) = g (s.slot i)) :
    s.onSlot i f = s.onSlot i g := by
  simp [onSlot, h]

theorem onSlot_onSlot (s : State) (i : Fin 4) (f g : Slot → Slot) :
    (s.onSlot i f).onSlot i g = s.onSlot i fun sl => g (f sl) := by
  simp [onSlot, slot]

theorem onSlot_self (s : State) (i : Fin 4) {f : Slot → Slot} (h : f (s.slot i) = s.slot i) : s.onSlot i f = s := by
  have hsame : s.path.slots.set i (s.slot i) = s.path.slots := Vector.set_getElem_self _
  rw [onSlot, h, hsame]

theorem onCard_onSlot (s : State) (i : Fin 4) (f : Slot → Slot) (g : Card → Card) :
    (s.onCard g).onSlot i f = (s.onSlot i f).onCard g := rfl

/-- The track block that a full or padded buffer is written to joins the write queue (R99). -/
def joinTrack (s : State) (i : Fin 4) (b : Fin 2) (block : Nat) : State :=
  s.onCard fun c => c.join (.slot i .track) block 1 (.buffer b)

theorem placeBuffer_of_some {s : State} {i : Fin 4} {block : Nat} (h : (s.slot i).trackCursor.next = some block)
    (b : Fin 2) (records : List FrameRecord) :
    s.placeBuffer i b records = (s.onSlot i fun sl => sl.placed b records).joinTrack i b block := by
  simp [placeBuffer, h, joinTrack, onSlot, Slot.placed]

theorem placeBuffer_of_none {s : State} {i : Fin 4} (h : (s.slot i).trackCursor.next = none)
    (b : Fin 2) (records : List FrameRecord) :
    s.placeBuffer i b records = s.onSlot i fun sl => sl.placed b records := by
  simp [placeBuffer, h, onSlot, Slot.placed]

theorem appendRecord_of_fills {s : State} {i : Fin 4} {b : Fin 2} {block : Nat}
    (h : (s.slot i).fills = some (b, block)) (r : FrameRecord) :
    s.appendRecord i r = (s.onSlot i fun sl => sl.appended r).joinTrack i b block := by
  obtain ⟨records, hfilling, hlen, hnext⟩ := Slot.fills_eq_some.mp h
  have happended : (s.onSlot i fun sl => sl.appended r) = s.onSlot i fun sl => sl.placed b (records ++ [r]) :=
    s.onSlot_congr i (by simp [Slot.appended, hfilling, hlen, Config.bufferRecords])
  rw [happended, ← placeBuffer_of_some hnext b (records ++ [r])]
  simp [appendRecord, hfilling, hlen, Config.bufferRecords]

theorem appendRecord_of_fills_none {s : State} {i : Fin 4} (h : (s.slot i).fills = none) (r : FrameRecord) :
    s.appendRecord i r = s.onSlot i fun sl => sl.appended r := by
  rcases hfilling : (s.slot i).filling with _ | ⟨b, records⟩
  · rcases hfree : (s.slot i).freeBuffer with _ | b <;>
      simp [appendRecord, onSlot, Slot.appended, hfilling, hfree]
  · by_cases hlen : records.length = 7
    · have hnext : (s.slot i).trackCursor.next = none := by simpa [Slot.fills, hfilling, hlen] using h
      have happended : (s.onSlot i fun sl => sl.appended r) = s.onSlot i fun sl => sl.placed b (records ++ [r]) :=
        s.onSlot_congr i (by simp [Slot.appended, hfilling, hlen, Config.bufferRecords])
      rw [happended, ← placeBuffer_of_none hnext b (records ++ [r])]
      simp [appendRecord, hfilling, hlen, Config.bufferRecords]
    · simp [appendRecord, onSlot, Slot.appended, hfilling, hlen, Config.bufferRecords]

theorem offerRecord_of_not_covers {s : State} {i : Fin 4} {r : FrameRecord} (h : ¬(s.slot i).covers r.number = true) :
    State.offerRecord r s i = s := by
  simp only [offerRecord, if_neg h]

theorem offerRecord_of_track_off {s : State} {i : Fin 4} {r : FrameRecord} (h : (s.slot i).covers r.number = true)
    (htrack : (s.slot i).track = false) : State.offerRecord r s i = s.onSlot i fun sl => sl.stamped r := by
  have htrack' : ((s.slot i).stamped r).track = false := by rw [Slot.stamped_eq]; exact htrack
  simp only [offerRecord, if_pos h]
  refine (if_neg ?_).trans rfl
  rw [onSlot_slot_self]
  exact Bool.eq_false_iff.mp htrack'

theorem offerRecord_of_track {s : State} {i : Fin 4} {r : FrameRecord} (h : (s.slot i).covers r.number = true)
    (htrack : (s.slot i).track = true) : State.offerRecord r s i =
      ((s.onSlot i fun sl => (sl.stamped r).advanced).appendRecord i r).onSlot i Slot.judgeOwed := by
  have htrack' : ((s.slot i).stamped r).track = true := by rw [Slot.stamped_eq]; exact htrack
  have hstamped : (s.onSlot i fun sl => (sl.stamped r).advanced) =
      (s.onSlot i fun sl => sl.stamped r).onSlot i Slot.advanced := (s.onSlot_onSlot i _ _).symm
  simp only [offerRecord, if_pos h, hstamped]
  refine (if_pos ?_).trans rfl
  rw [onSlot_slot_self]
  exact htrack'

/-- Neither the stamp nor the next track frame moves a buffer. -/
theorem fills_advanced (s : Slot) (r : FrameRecord) : (s.stamped r).advanced.fills = s.fills := by
  rw [Slot.stamped_eq]; rfl

/-- A record taken that fills a buffer up with a track block left: the slot moves, and the buffer is queued. -/
theorem offerRecord_of_fills {s : State} {i : Fin 4} {r : FrameRecord} {b : Fin 2} {block : Nat}
    (h : (s.slot i).covers r.number = true) (htrack : (s.slot i).track = true)
    (hfills : (s.slot i).fills = some (b, block)) :
    State.offerRecord r s i = (s.onSlot i (Slot.offered r)).joinTrack i b block := by
  have hoffered : s.onSlot i (Slot.offered r) = s.onSlot i fun sl => ((sl.stamped r).advanced.appended r).judgeOwed :=
    s.onSlot_congr i (by simp [Slot.offered, h, htrack])
  have hfills' : ((s.onSlot i fun sl => (sl.stamped r).advanced).slot i).fills = some (b, block) := by
    rw [onSlot_slot_self, fills_advanced, hfills]
  rw [offerRecord_of_track h htrack, appendRecord_of_fills hfills', hoffered, joinTrack, onCard_onSlot,
    onSlot_onSlot, onSlot_onSlot]
  rfl

/-- In every other case a record offered moves the slot alone. -/
theorem offerRecord_of_no_fill {s : State} {i : Fin 4} {r : FrameRecord}
    (h : (s.slot i).covers r.number = true → (s.slot i).track = true → (s.slot i).fills = none) :
    State.offerRecord r s i = s.onSlot i (Slot.offered r) := by
  by_cases hcovers : (s.slot i).covers r.number = true
  · rcases htrack : (s.slot i).track with _ | _
    · rw [offerRecord_of_track_off hcovers htrack]
      exact s.onSlot_congr i (by simp [Slot.offered, hcovers, htrack])
    · have hoffered :
          s.onSlot i (Slot.offered r) = s.onSlot i fun sl => ((sl.stamped r).advanced.appended r).judgeOwed :=
        s.onSlot_congr i (by simp [Slot.offered, hcovers, htrack])
      have hfills : ((s.onSlot i fun sl => (sl.stamped r).advanced).slot i).fills = none := by
        rw [onSlot_slot_self, fills_advanced, h hcovers htrack]
      rw [offerRecord_of_track hcovers htrack, appendRecord_of_fills_none hfills, hoffered, onSlot_onSlot,
        onSlot_onSlot]
  · rw [offerRecord_of_not_covers hcovers, s.onSlot_self i (by simp [Slot.offered, hcovers])]

/-- A record offered moves the slot as Slot.offered says, and beyond it the write queue alone. -/
theorem offerRecord_slots (s : State) (i : Fin 4) (r : FrameRecord) :
    (State.offerRecord r s i).path.slots = (s.onSlot i (Slot.offered r)).path.slots ∧
      (State.offerRecord r s i).path.card.handbacks = s.path.card.handbacks := by
  by_cases h : (s.slot i).covers r.number = true ∧ (s.slot i).track = true ∧ (s.slot i).fills ≠ none
  · obtain ⟨hcovers, htrack, hfills⟩ := h
    obtain ⟨⟨b, block⟩, hsome⟩ := Option.ne_none_iff_exists'.mp hfills
    rw [offerRecord_of_fills hcovers htrack hsome]
    exact ⟨rfl, rfl⟩
  · rw [offerRecord_of_no_fill fun hcovers htrack => of_not_not fun hne => h ⟨hcovers, htrack, hne⟩]
    exact ⟨rfl, rfl⟩

/-- A buffer placed moves the slot as Slot.placed says, and beyond it the write queue alone. -/
theorem placeBuffer_slots (s : State) (i : Fin 4) (b : Fin 2) (records : List FrameRecord) :
    (s.placeBuffer i b records).path.slots = (s.onSlot i fun sl => sl.placed b records).path.slots ∧
      (s.placeBuffer i b records).path.card.handbacks = s.path.card.handbacks := by
  rcases h : (s.slot i).trackCursor.next with _ | block
  · rw [placeBuffer_of_none h]; exact ⟨rfl, rfl⟩
  · rw [placeBuffer_of_some h]; exact ⟨rfl, rfl⟩

/-! ### The close of a frame (R49, R50) -/

/-- A frame closed, in full: the flags taken and emptied, the trailer with the record, and the record offered to the
slots. -/
theorem closeFrame_eq (s : State) (f : OpenFrame) (forced : Bool) {short : Bool} {record : FrameRecord}
    (hshort : (forced || decide (f.lines < f.geometry.h)) = short)
    (hrecord : f.record s.path.engine.flags short s.path.intake.framePeak = record) :
    s.closeFrame f forced = State.takeRecord (State.chooseUnit
      { s with
        path.engine.flags := .empty
        path.window.frame := none
        path.window.shortFrames := if short then satAdd s.path.window.shortFrames 1 else s.path.window.shortFrames
        path.link.stream := s.path.link.stream ++ [.trailer record] }) record := by
  subst hshort hrecord; rfl

end State
end Sys2Proof.Machine
end

section
/-! PROOFS. The closing law and the record law of a state (R101 to R103, R109), first layer: what they read of it, and
the operations of the slots, the frames and the card that move that part. -/

namespace Sys2Proof.Machine

/-- What the two laws read: the slots, the handbacks, the geometries and the open frame. -/
structure Ledger where
  slots : Vector Slot 4
  handbacks : List Handback
  geometry : Option Geometry
  pending : Option Geometry
  frame : Option OpenFrame

/-- A slot as its loss leaves it: FREE, and a FREE one as it was (R107). -/
def Slot.lost (s : Slot) : Slot := if s.state = .free then s else .freed

theorem Slot.lost_state (s : Slot) : s.lost.state = .free := by
  unfold lost; split
  · assumption
  · rfl

theorem Slot.Booked.lost {full : Prop} {s : Slot} (h : s.Booked full) : s.lost.Booked full := by
  unfold Slot.lost; split
  · exact h
  · exact booked_freed full

/-- A FREE slot gives up a buffer (R100). -/
theorem Slot.Booked.unbuffered {full : Prop} {s : Slot} (h : s.Booked full) (hstate : s.state = .free) (b : Fin 2) :
    (s.setBuffer b .free).Booked full := by
  refine ⟨h.1, fun hfull => ⟨fun harmed => ?_, fun hopen => ?_, fun i x hx => ?_⟩⟩
  · exact absurd (hstate.symm.trans harmed) nofun
  · rcases hopen with h' | h' <;> exact absurd (hstate.symm.trans h') nofun
  · rw [setBuffer_buffers] at hx
    split at hx
    · cases hx
    · exact (h.2 hfull).2.2 i x hx

namespace State

/-- The part of a state that the two laws read. -/
@[simp] def ledger (s : State) : Ledger :=
  ⟨s.path.slots, s.path.card.handbacks, s.path.window.geometry, s.path.window.pending, s.path.window.frame⟩

/-- ClosingLaw where full is false, and RecordLaw where it is true: the two laws of ClosingLawIsKept, to be kept at
once. -/
structure Booked (full : Prop) (s : State) : Prop where
  slots : ∀ i, (s.slot i).Booked full
  removed : full → ∀ h ∈ s.path.card.handbacks, h.result = .removed → (s.slot h.slot).state = .free
  settings : full → ∀ g, s.path.window.geometry = some g ∨ s.path.window.pending = some g → 1 ≤ g.bands
  frame : full → ∀ f, s.path.window.frame = some f → 1 ≤ f.geometry.bands

theorem closingLaw_iff (s : State) : s.ClosingLaw ↔ s.Booked False :=
  ⟨fun h => ⟨fun i => ⟨h i, nofun⟩, nofun, nofun, nofun⟩, fun h i => (h.slots i).1⟩

theorem recordLaw_iff (s : State) : s.RecordLaw ↔ s.Booked True :=
  ⟨fun ⟨hslots, hremoved, hsettings, hframe⟩ =>
    ⟨fun i => ⟨(hslots i).2, fun _ => (hslots i).1⟩, fun _ => hremoved, fun _ => hsettings, fun _ => hframe⟩,
    fun h => ⟨fun i => ⟨(h.slots i).2 trivial, (h.slots i).1⟩, h.removed trivial, h.settings trivial, h.frame trivial⟩⟩

namespace Booked
variable {full : Prop} {s t : State}

/-- The laws read the ledger alone. -/
theorem of_ledger (h : s.Booked full) (he : t.ledger = s.ledger) : t.Booked full := by
  obtain ⟨hslots, hremoved, hsettings, hframe⟩ := h
  simp only [ledger, Ledger.mk.injEq] at he
  obtain ⟨hs, hh, hg, hp, hf⟩ := he
  refine ⟨?_, ?_, ?_, ?_⟩
  · simpa only [slot, hs] using hslots
  · simpa only [slot, hs, hh] using hremoved
  · simpa only [hg, hp] using hsettings
  · simpa only [hf] using hframe

/-- The same slots and handbacks, beside a window whose geometries and frame have a band. -/
theorem of_window (h : s.Booked full) (hslots : t.path.slots = s.path.slots)
    (hcard : t.path.card.handbacks = s.path.card.handbacks)
    (hsettings : full → ∀ g, t.path.window.geometry = some g ∨ t.path.window.pending = some g → 1 ≤ g.bands)
    (hframe : full → ∀ f, t.path.window.frame = some f → 1 ≤ f.geometry.bands) : t.Booked full := by
  refine ⟨?_, ?_, hsettings, hframe⟩
  · simpa only [slot, hslots] using h.slots
  · simpa only [slot, hslots, hcard] using h.removed

/-- One slot rewritten, a FREE one to a FREE one. -/
theorem onSlot (h : s.Booked full) (i : Fin 4) {f : Slot → Slot}
    (hslot : (s.slot i).Booked full → (f (s.slot i)).Booked full)
    (hfree : (s.slot i).state = .free → (f (s.slot i)).state = .free) : (s.onSlot i f).Booked full := by
  refine ⟨fun j => ?_, fun hfull x hx hr => ?_, h.settings, h.frame⟩
  · rw [slot_onSlot]; split
    · exact hslot (h.slots i)
    · exact h.slots j
  · have hold := h.removed hfull x hx hr
    rw [slot_onSlot]; split
    next hij => exact hfree (hij ▸ hold)
    · exact hold

theorem notify (h : s.Booked full) (n : Notice) : (s.notify n).Booked full := h.of_ledger (by simp)

/-! ### Records (R97 to R99) -/

theorem offerRecord (h : s.Booked full) {r : FrameRecord} (hr : full → r.bandCount ≠ 0) (i : Fin 4) :
    (State.offerRecord r s i).Booked full := by
  obtain ⟨hslots, hcard⟩ := s.offerRecord_slots i r
  have hmoved : (s.onSlot i (Slot.offered r)).Booked full :=
    h.onSlot i (fun hslot => hslot.offered hr) fun hfree => (Slot.offered_state _ r).trans hfree
  exact hmoved.of_ledger (by simp [hslots, hcard])

theorem takeRecord (h : s.Booked full) {r : FrameRecord} (hr : full → r.bandCount ≠ 0) : (s.takeRecord r).Booked full :=
  List.foldlRecOn _ _ h fun _ hu i _ => hu.offerRecord hr i

/-! ### Closing (R101 to R103, R108) -/

theorem closeSlot (h : s.Booked full) {i : Fin 4} (hstate : (s.slot i).state = .recording) (stop : FrameNo)
    (cause : SealCause) : (s.closeSlot i stop cause).Booked full := by
  have hclosed : (s.onSlot i fun sl => sl.close stop cause (decide (s.path.window.path = .idle))
      s.path.window.frameCounter).Booked full :=
    h.onSlot i (fun hslot => hslot.close hstate stop cause _ _) fun hfree => absurd (hstate.symm.trans hfree) nofun
  exact hclosed.of_ledger rfl

theorem freeSlot (h : s.Booked full) (i : Fin 4) : (s.freeSlot i).Booked full :=
  h.onSlot i (fun _ => Slot.booked_freed full) fun _ => rfl

theorem cutOwed (h : s.Booked full) (i : Fin 4) (counter : FrameNo) :
    (s.onSlot i fun sl => sl.cutOwed counter).Booked full :=
  h.onSlot i (fun hslot => hslot.cutOwed counter) fun hfree => (Slot.cutOwed_state _ counter).trans hfree

theorem cutAllOwed (h : s.Booked full) : s.cutAllOwed.Booked full :=
  List.foldlRecOn _ _ h fun _ hu i _ => hu.cutOwed i _

theorem sealSlot (h : s.Booked full) (i : Fin 4) : (s.sealSlot i).Booked full := by
  unfold State.sealSlot
  split
  · exact h
  · exact (h.notify _).freeSlot i
  · exact h.closeSlot ‹_› _ _
  · exact h.cutOwed i _

theorem emergencySeal (h : s.Booked full) : s.emergencySeal.Booked full :=
  List.foldlRecOn _ _ h fun _ hu i _ => hu.sealSlot i

end Booked

/-! ### What shelters the two laws -/

/-- The two laws read slots, handbacks, geometries and the open frame: neither the monitor domain nor the link. -/
theorem booked_sheltered (full : Prop) : Sheltered (State.Booked full) where
  monitor h ht := h.of_ledger (by simp [ht])
  time us h := h.of_ledger (by simp)
  link f h := h.of_ledger rfl
  reset ht := by
    refine ⟨fun i => ?_, fun _ => ?_, fun _ => ?_, fun _ => ?_⟩
    · have hfreed : ∀ i : Fin 4, Path.afterReset.slots[i] = .freed := fun i => Vector.getElem_replicate _
      rw [slot, ht, hfreed]; exact Slot.booked_freed full
    · rw [ht]; exact nofun
    · rw [ht]; rintro g (hg | hg) <;> cases hg
    · rw [ht]; exact nofun
  emergencySeal h := h.emergencySeal

namespace Booked
variable {full : Prop} {s t : State}

/-! ### Frames (R42, R43, R45, R49) -/

theorem closeFrame (h : s.Booked full) {f : OpenFrame} (hf : s.path.window.frame = some f) (forced : Bool) :
    (s.closeFrame f forced).Booked full := by
  rw [s.closeFrame_eq f forced rfl rfl]
  refine takeRecord ?_ fun hfull => Nat.one_le_iff_ne_zero.mp (h.frame hfull f hf)
  refine (booked_sheltered full).chooseUnit ?_
  exact h.of_window rfl rfl h.settings fun _ => nofun

theorem closeShort (h : s.Booked full) : s.closeShort.Booked full := by
  unfold State.closeShort
  split
  · exact h
  · exact h.closeFrame ‹_› _

theorem swap (h : s.Booked full) : s.swap.Booked full := by
  rcases hdue : s.swapDue with _ | _
  · rwa [swap_of_not_due hdue]
  · have hwindow := swap_window_of_due hdue
    refine h.of_window (by simp) (by simp) (fun hfull g hg => ?_) fun hfull f hf => h.frame hfull f ?_
    · rw [hwindow] at hg
      dsimp only at hg
      split at hg
      · exact h.settings hfull g hg
      · exact h.settings hfull g (hg.elim .inr nofun)
    · rwa [hwindow] at hf

theorem swapIfIdle (h : s.Booked full) : s.swapIfIdle.Booked full :=
  iteInduction (motive := State.Booked full) (fun _ => h.swap) fun _ => h

/-- The open frame replaced by one with a band. -/
theorem withFrame (h : s.Booked full) {f : OpenFrame} (hf : full → 1 ≤ f.geometry.bands)
    (he : t.ledger = { s.ledger with frame := some f }) : t.Booked full := by
  simp only [ledger, Ledger.mk.injEq] at he
  obtain ⟨hs, hh, hg, hp, hframe⟩ := he
  refine h.of_window hs hh (by rw [hg, hp]; exact h.settings) fun hfull f' hf' => ?_
  rw [hframe, Option.some.injEq] at hf'
  exact hf' ▸ hf hfull

theorem beginFrame (h : s.Booked full) {g : Geometry} (hg : full → 1 ≤ g.bands) : (s.beginFrame g).Booked full := by
  rw [s.beginFrame_eq rfl]
  refine (booked_sheltered full).chooseUnit (h.withFrame ?_ rfl)
  exact hg

theorem numberedStart (h : s.Booked full) : s.numberedStart.Booked full := by
  have hswapped := h.closeShort.swap
  unfold State.numberedStart
  dsimp only
  split
  · exact hswapped
  next g hg => exact hswapped.beginFrame fun hfull => hswapped.settings hfull g (.inl hg)

theorem passLine (h : s.Booked full) {f : OpenFrame} (hf : full → 1 ≤ f.geometry.bands) (i : Nat)
    (pixels : List Pixel) : (s.passLine f i pixels).Booked full := by
  rcases Nat.lt_or_ge (linesHeld s.path.link.stream) 4 with hroom | hfull
  · rw [s.passLine_of_room f i pixels rfl hroom]
    refine (booked_sheltered full).chooseUnit (h.withFrame ?_ rfl)
    exact hf
  · rw [s.passLine_of_full f i pixels rfl hfull]
    refine h.withFrame ?_ rfl
    exact hf

theorem frameLine (h : s.Booked full) {f : OpenFrame} (hf : s.path.window.frame = some f) (g : Geometry)
    (pixels : List Pixel) : (s.frameLine f g pixels).Booked full := by
  have hband : full → 1 ≤ f.geometry.bands := fun hfull => h.frame hfull f hf
  by_cases hrow : f.rows < f.y0 ∨ f.y0 + f.geometry.h ≤ f.rows
  · rw [s.frameLine_outside g pixels hrow]
    refine h.withFrame ?_ rfl
    exact hband
  · rw [s.frameLine_inside g pixels rfl hrow]
    exact passLine (f := s.rowBegun f _) (h.withFrame (f := s.rowBegun f _) hband rfl) hband _ _

end Booked
end State
end Sys2Proof.Machine
end

section
/-! PROOFS. The closing law and the record law of a state, second layer: the operations of the write queue, the card and
the clip slots. -/

namespace Sys2Proof.Machine.State

/-! ### The slots and the handbacks across the operations of the card -/

section
variable (s : State)

@[simp] theorem completeEntry_handbacks (e : Entry) :
    (s.completeEntry e).path.card.handbacks = s.path.card.handbacks := by
  unfold completeEntry; split <;> rfl

@[simp] theorem joinPieces_handbacks (c : Card) (i : Fin 4) (pieces : List (Nat × List Block)) :
    (c.joinPieces i pieces).handbacks = c.handbacks :=
  List.foldlRecOn (motive := fun x : Card => x.handbacks = c.handbacks) _ _ rfl fun _ hx _ _ => hx

theorem loseSlot_slot (cause : LossCause) (i j : Fin 4) :
    (State.loseSlot cause s i).slot j = if i = j then (s.slot i).lost else s.slot j := by
  by_cases hfree : (s.slot i).state = .free
  · have hsame : State.loseSlot cause s i = s := if_pos hfree
    rw [hsame, Slot.lost, if_pos hfree]
    split
    next hij => rw [hij]
    · rfl
  · have hlost : State.loseSlot cause s i = _ := if_neg hfree
    rw [hlost, freeSlot, slot_onSlot, Slot.lost, if_neg hfree]
    simp [slot]

/-- A teardown leaves every slot lost (R90, R107). -/
theorem loseSlots_slot (cause : LossCause) (i : Fin 4) : (s.loseSlots cause).slot i = (s.slot i).lost := by
  simp only [loseSlots, slotIndices, List.foldl_cons, List.foldl_nil, loseSlot_slot]
  match i with
  | 0 | 1 | 2 | 3 => rfl

theorem teardown_slot (new : CardState) (cause : CardCause) (loss : LossCause) (i : Fin 4) :
    (s.teardown new cause loss).slot i = (s.slot i).lost := by
  rw [teardown, loseSlots_slot]
  simp [slot]

end

namespace Booked
variable {full : Prop} {s : State}

/-! ### The card -/

/-- A teardown leaves every slot FREE, so that its handbacks belong to slots that are lost (R90, R107). -/
theorem teardown (h : s.Booked full) (new : CardState) (cause : CardCause) (loss : LossCause) :
    (s.teardown new cause loss).Booked full := by
  obtain ⟨_, _, _, _, hwindow, _⟩ := s.teardown_frame new cause loss
  refine ⟨fun i => ?_, fun _ x _ _ => ?_, ?_, ?_⟩
  · rw [teardown_slot]; exact (h.slots i).lost
  · rw [teardown_slot]; exact Slot.lost_state _
  · rw [hwindow]; exact h.settings
  · rw [hwindow]; exact h.frame

theorem removeCard (h : s.Booked full) : s.removeCard.Booked full := by
  have hunknown : (s.onCard fun c => { c with capacity := none }).Booked full := h.of_ledger rfl
  exact hunknown.teardown _ _ _

/-- Buffers handed back DONE or FAILED (R77). -/
theorem handBack (h : s.Booked full) (entries : List Entry) {result : HandbackResult} (hr : result ≠ .removed) :
    (s.handBack entries result).Booked full := by
  refine ⟨h.slots, fun hfull x hx hremoved => ?_, h.settings, h.frame⟩
  rcases List.mem_append.mp hx with hx | hx
  · exact h.removed hfull x hx hremoved
  · obtain ⟨e, _, he⟩ := List.mem_filterMap.mp hx
    unfold Entry.handback? at he
    split at he
    · cases he; exact absurd hremoved hr
    · cases he

theorem judgeFailures (h : s.Booked full) : s.judgeFailures.Booked full :=
  iteInduction (motive := State.Booked full) (fun _ => h.teardown _ _ _) fun _ => h

theorem faultOwner (h : s.Booked full) (entries : List Entry) (owner : Option (Fin 4)) :
    (State.faultOwner entries s owner).Booked full := by
  unfold State.faultOwner
  split
  · exact h
  · exact h.onSlot _ id id

theorem writeFailed (h : s.Booked full) (t : Transaction) (k : Nat) (outcome : AttemptFailure) :
    (s.writeFailed t k outcome).Booked full := by
  have hleft : ((s.onCard fun c => { c with queue := c.queue.drop k }.countFailure).releaseEntries
      (s.path.card.queue.take k)).Booked full := h.of_ledger (by simp [Card.countFailure])
  refine judgeFailures (List.foldlRecOn _ _ ?_ fun _ hu _ _ => hu.notify _)
  exact List.foldlRecOn _ _ (hleft.handBack _ nofun) fun _ hu o _ => hu.faultOwner _ o

theorem readFailed (h : s.Booked full) : s.readFailed.Booked full :=
  judgeFailures (h.of_ledger (by simp [Card.countFailure]))

theorem endAttempt (h : s.Booked full) (t : Transaction) (outcome : AttemptFailure) :
    (s.endAttempt t outcome).Booked full := by
  have hended : (s.onCard fun c => { c with response := none, busy := none }).Booked full := h.of_ledger rfl
  unfold State.endAttempt
  dsimp only
  (repeat' split)
  · exact hended.of_ledger rfl
  · exact hended.of_ledger rfl
  · exact hended.writeFailed _ _ _
  · exact hended.readFailed

theorem completeEntry (h : s.Booked full) (e : Entry) : (s.completeEntry e).Booked full := by
  unfold State.completeEntry
  split
  next i _ =>
    have hwritten : (s.onSlot i fun sl => { sl with written := satAdd sl.written e.count }).Booked full :=
      h.onSlot i id id
    exact hwritten.of_ledger rfl
  · exact h

theorem writeDone (h : s.Booked full) (k : Nat) : (s.writeDone k).Booked full := by
  unfold State.writeDone
  refine List.foldlRecOn _ _ (handBack (h.of_ledger ?_) _ nofun) fun _ hu e _ => hu.completeEntry e
  simp

/-! ### Handbacks at the track assembler (R100, R106) -/

theorem sealed (h : s.Booked full) (i : Fin 4) (summary : Summary) (failed : Bool) :
    (s.sealed i summary failed).Booked full :=
  freeSlot ((h.notify (.clipSealed i summary failed)).of_ledger (by simp)) i

theorem takeHandback (h : s.Booked full) (x : Handback)
    (hremoved : full → x.result = .removed → (s.slot x.slot).state = .free) : (s.takeHandback x).Booked full := by
  have hlost : ∀ t : Slot, x.result = .removed → (s.slot x.slot).state ≠ .free → t.ClosingLaw → t.Booked full :=
    fun _ hr hne hclosing => ⟨hclosing, fun hfull => absurd (hremoved hfull hr) hne⟩
  unfold State.takeHandback
  split
  next hfree => exact h.onSlot _ (fun hslot => hslot.unbuffered hfree _) id
  next records hqueued hne =>
    refine h.onSlot _ (fun hslot => ?_) fun hfree => absurd hfree hne
    dsimp only
    split
    · exact hslot.handedBack hqueued hne (raisedBy_satAdd _ _) (raisedBy_zero _) rfl
    · exact hslot.handedBack hqueued hne (raisedBy_zero _) (raisedBy_satAdd _ _) (Nat.zero_add _)
    next hr => exact hlost _ hr hne hslot.1
  next summary hqueued hne =>
    split
    · exact h.sealed _ _ _
    · exact h.sealed _ _ _
    next hr => exact h.onSlot _ (fun hslot => hlost _ hr hne hslot.1) fun hfree => absurd hfree hne
  · exact h

/-! ### Clip data and extents -/

theorem checkSpaceLow (h : s.Booked full) (i : Fin 4) : (s.checkSpaceLow i).Booked full := by
  unfold State.checkSpaceLow
  dsimp only
  split
  · exact (h.onSlot i id id).notify _
  · exact h

theorem placePacket (h : s.Booked full) (i : Fin 4) (blocks : List Block) : (s.placePacket i blocks).Booked full := by
  have hcounted : (s.onSlot i fun sl =>
      { sl with videoCursor := ((s.slot i).lay blocks).2, accepted := satAdd sl.accepted blocks.length }).Booked full :=
    h.onSlot i id id
  exact checkSpaceLow (hcounted.of_ledger (by simp)) i

theorem countGap (h : s.Booked full) (i : Fin 4) : (s.onSlot i Slot.countGap).Booked full := by
  refine h.onSlot i ?_ ?_ <;> unfold Slot.countGap <;> split <;> exact id

theorem discardClip (h : s.Booked full) (i : Fin 4) (n : Nat) (cause : DiscardCause) :
    (s.discardClip i n cause).Booked full :=
  (countGap ((booked_sheltered full).release h n) i).notify _

theorem takeClipData (h : s.Booked full) (i : Fin 4) (n : Nat) (payload : Option (List Block)) :
    (s.takeClipData i n payload).Booked full := by
  unfold State.takeClipData
  (repeat' split)
  · exact h.discardClip i n _
  · exact h.discardClip i n _
  · exact h.placePacket i _

theorem takePlain (h : s.Booked full) (start n : Nat) (payload : Option (List Block)) :
    (s.takePlain start n payload).Booked full := by
  refine h.of_ledger ?_
  unfold State.takePlain
  (repeat' split) <;> simp [State.discardPlain, Card.join]

theorem addExtent (h : s.Booked full) (i : Fin 4) (stream : Stream) (e : Extent) :
    (s.onSlot i fun sl => sl.addExtent stream e).Booked full := by
  cases stream with
  | video => exact h.onSlot i id id
  | track => exact h.onSlot i id id

/-- CLIP ARM: an ARMED slot has counted nothing, and the handbacks of an earlier clip are gone (R57, log 11). -/
theorem arm (h : s.Booked full) (i : Fin 4) (clip : Nat) (track : Bool) (lowWater : Nat) :
    ((s.onSlot i fun _ => Slot.armed clip track lowWater).onCard fun c =>
      { c with handbacks := c.handbacks.filter fun x => decide (x.slot ≠ i) }).Booked full := by
  refine ⟨fun j => ?_, fun hfull x hx hr => ?_, h.settings, h.frame⟩
  · rw [onCard_slot, slot_onSlot]; split
    · exact Slot.booked_armed full _ _ _
    · exact h.slots j
  · obtain ⟨hmem, hne⟩ := List.mem_filter.mp hx
    rw [onCard_slot, onSlot_slot_of_ne _ _ _ (of_decide_eq_true hne)]
    exact h.removed hfull x hmem hr

theorem start (h : s.Booked full) {i : Fin 4} (hstart : s.startRefusal i = none) (counter : FrameNo) :
    (s.onSlot i fun sl => sl.started counter).Booked full := by
  have harmed : (s.slot i).state = .armed := by
    by_contra hne
    rw [startRefusal, if_pos hne] at hstart; cases hstart
  exact h.onSlot i (fun hslot => hslot.started harmed counter) fun hfree => absurd (harmed.symm.trans hfree) nofun

end Booked
end Sys2Proof.Machine.State
end

section
/-! PROOFS. The closing law and the record law (O18): every command keeps them, by the shape it has, and so does every
step. -/

namespace Sys2Proof.Machine
namespace State.Booked
variable {full : Prop} {s : State}

/-! ### The commands of intake, steadying and frame window -/

theorem takeSample (h : s.Booked full) (stamp : Time) (r : RawSample) : (s.takeSample stamp r).Booked full := by
  refine h.of_ledger ?_
  unfold State.takeSample
  rw [shockCheck_eq]
  rfl

theorem ends_sampleReadComplete (h : s.Booked full) (bytes : Vector Byte 12) :
    Ends (State.Booked full) (execSampleReadComplete bytes s) := by
  refine ends_next (law_whenUp h ?_)
  dsimp only
  split
  · have hfreed : (s.onIntake fun i => { i with port := .free }).Booked full := h.of_ledger rfl
    exact iteInduction (motive := State.Booked full) (fun _ => hfreed.takeSample _ _) fun _ => hfreed
  · exact h

theorem ends_motionSetup (h : s.Booked full) (tag : Byte) (args : MotionArgs) :
    Ends (State.Booked full) (execMotionSetup tag args s) := by
  refine ends_next ((booked_sheltered full).request h fun u hu => ?_)
  split
  · exact (booked_sheltered full).answer hu _ _
  next m _ =>
    have hpending : (u.onIntake fun i => { i with pending := some m }).Booked full := hu.of_ledger rfl
    exact (booked_sheltered full).answer hpending.swapIfIdle _ _

theorem ends_lensTable (h : s.Booked full) (tag : Byte) (axis : Option LensAxis) (spacing : Nat)
    (entries : Vector Nat 17) : Ends (State.Booked full) (execLensTable tag axis spacing entries s) := by
  have hpending : ∀ {u : State} (f : Engine → Engine), u.Booked full → (u.onEngine f).Booked full :=
    fun _ hu => hu.of_ledger rfl
  refine ends_next ((booked_sheltered full).request h fun u hu => ?_)
  (repeat' split)
  · exact (booked_sheltered full).answer hu _ _
  · exact (booked_sheltered full).answer hu _ _
  · exact (booked_sheltered full).answer hu _ _
  · exact (booked_sheltered full).answer (hpending _ hu).swapIfIdle _ _

theorem bands_of_checkGeometry {g : Geometry} (h : checkGeometry g = true) : 1 ≤ g.bands := by
  simp only [checkGeometry, Bool.and_eq_true] at h
  obtain ⟨⟨⟨_, hbands⟩, _⟩, _⟩ := h
  simp only [within, decide_eq_true_eq] at hbands
  exact hbands.1

/-- A geometry taken by LOAD GEOMETRY has a band (R37). -/
theorem ends_loadGeometry (h : s.Booked full) (tag : Byte) (args : Geometry) :
    Ends (State.Booked full) (execLoadGeometry tag args s) := by
  refine ends_next ((booked_sheltered full).request h fun u hu => ?_)
  (repeat' split)
  · exact (booked_sheltered full).answer hu _ _
  · exact (booked_sheltered full).answer hu _ _
  next hcheck _ =>
    have hband : 1 ≤ args.bands := bands_of_checkGeometry (by simpa using hcheck)
    have hpending : (u.onWindow fun w => { w with pending := some args }).Booked full := by
      refine hu.of_window rfl rfl (fun hfull g hg => ?_) hu.frame
      rcases hg with hg | hg
      · exact hu.settings hfull g (.inl hg)
      · cases hg; exact hband
    exact (booked_sheltered full).answer hpending.swapIfIdle _ _

theorem ends_frameStartUnit (h : s.Booked full) : Ends (State.Booked full) (execFrameStartUnit s) := by
  have hstart : (if s.path.window.geometry.isNone then s.swap else s).Booked full :=
    iteInduction (motive := State.Booked full) (fun _ => h.swap) fun _ => h
  refine ends_next (law_whenUp h (iteInduction (motive := State.Booked full) (fun _ => ?_) fun _ => ?_))
  · exact hstart.of_ledger rfl
  · exact hstart.numberedStart

theorem ends_lineUnit (h : s.Booked full) (pixels : List Pixel) :
    Ends (State.Booked full) (execLineUnit pixels s) := by
  refine ends_next (law_whenUp h ?_)
  (repeat' split)
  · exact h.frameLine ‹_› _ _
  · exact h
  · exact h
  · exact h.of_ledger rfl
  · exact h.of_ledger rfl

theorem ends_frameEndUnit (h : s.Booked full) : Ends (State.Booked full) (execFrameEndUnit s) := by
  refine ends_next (law_whenUp h ?_)
  split
  next f _ _ hframe _ => exact (h.closeFrame hframe false).of_ledger (by simp)
  · exact h
  · exact h.of_ledger rfl
  · exact h

theorem ends_sensorStall (h : s.Booked full) : Ends (State.Booked full) (execSensorStall s) := by
  refine ends_next (law_whenUp h ((booked_sheltered full).expiry h fun u hu => ?_))
  have hcounted : (u.closeShort.onWindow fun w => { w with stalls := satAdd w.stalls 1 }).Booked full :=
    hu.closeShort.of_ledger rfl
  exact (hcounted.notify _).cutAllOwed.of_ledger rfl

/-! ### The commands of the clip table -/

theorem ends_clipArm (h : s.Booked full) (tag : Byte) (slot clip : Nat) (track : Option Bool) (lowWater : Option Nat) :
    Ends (State.Booked full) (execClipArm tag slot clip track lowWater s) := by
  refine ends_next ((booked_sheltered full).request h fun u hu => ?_)
  (repeat' split)
  · exact (booked_sheltered full).answer hu _ _
  · exact (booked_sheltered full).answer hu _ _
  · exact (booked_sheltered full).answer hu _ _
  · exact (booked_sheltered full).answer (hu.arm _ _ _ _) _ _
  · exact (booked_sheltered full).answer hu _ _

theorem ends_extentAdd (h : s.Booked full) (tag : Byte) (slot : Nat) (stream : Option Stream) (start length : Nat) :
    Ends (State.Booked full) (execExtentAdd tag slot stream start length s) := by
  refine ends_next ((booked_sheltered full).request h fun u hu => ?_)
  (repeat' split)
  · exact (booked_sheltered full).answer hu _ _
  · exact (booked_sheltered full).answer hu _ _
  · exact (booked_sheltered full).answer (hu.addExtent _ _ _) _ _
  · exact (booked_sheltered full).answer hu _ _

theorem ends_clipStart (h : s.Booked full) (tag : Byte) (slot : Nat) :
    Ends (State.Booked full) (execClipStart tag slot s) := by
  refine ends_next ((booked_sheltered full).request h fun u hu => ?_)
  (repeat' split)
  · exact (booked_sheltered full).answer hu _ _
  · exact (booked_sheltered full).answer hu _ _
  next i _ _ hstart =>
    have hstarted := (hu.start hstart u.path.window.frameCounter).of_ledger
      (t := (u.onSlot i fun sl => sl.started u.path.window.frameCounter).retain i (u.slot i).clip) (by simp)
    exact (booked_sheltered full).answer (hstarted.checkSpaceLow i) _ _

theorem ends_clipStop (h : s.Booked full) (tag : Byte) (slot : Nat) (last : FrameNo) :
    Ends (State.Booked full) (execClipStop tag slot last s) := by
  refine ends_next ((booked_sheltered full).request h fun u hu => ?_)
  (repeat' split)
  · exact (booked_sheltered full).answer hu _ _
  · exact (booked_sheltered full).answer hu _ _
  · exact (booked_sheltered full).answer (hu.closeSlot ‹_› _ _) _ _
  · exact (booked_sheltered full).answer hu _ _

theorem ends_clipDrop (h : s.Booked full) (tag : Byte) (slot : Nat) :
    Ends (State.Booked full) (execClipDrop tag slot s) := by
  refine ends_next ((booked_sheltered full).request h fun u hu => ?_)
  (repeat' split)
  · exact (booked_sheltered full).answer hu _ _
  · exact (booked_sheltered full).answer (hu.freeSlot _) _ _
  · exact (booked_sheltered full).answer hu _ _

theorem headerError (h : s.Booked full) : s.headerError.Booked full := h.of_ledger (by simp)

theorem takeData (h : s.Booked full) (n : Nat) (payload : Option (List Block)) : (s.takeData n payload).Booked full :=
  h.of_ledger (by simp)

theorem ends_clipData (h : s.Booked full) (slot n : Nat) (payload : Option (List Block)) :
    Ends (State.Booked full) (execClipData slot n payload s) := by
  refine ends_next (law_whenUp h ?_)
  (repeat' split)
  · exact h.headerError
  · exact (h.takeData _ _).takeClipData _ _ _
  · exact h.headerError

theorem ends_plainWrite (h : s.Booked full) (start n : Nat) (payload : Option (List Block)) :
    Ends (State.Booked full) (execPlainWrite start n payload s) := by
  refine ends_next (law_whenUp h ?_)
  split
  · exact (h.takeData _ _).takePlain _ _ _
  · exact h.headerError

/-! ### The commands of the track assembler -/

theorem ends_bufferHandback (h : s.Booked full) : Ends (State.Booked full) (execBufferHandback s) := by
  refine ends_next (law_whenUp h ?_)
  split
  · exact h
  next x rest hwaiting =>
    have hmem : ∀ y ∈ rest, y ∈ s.path.card.handbacks := fun y hy => by rw [hwaiting]; exact List.mem_cons_of_mem x hy
    have hrest : (s.onCard fun c => { c with handbacks := rest }).Booked full :=
      ⟨h.slots, fun hfull y hy => h.removed hfull y (hmem y hy), h.settings, h.frame⟩
    exact hrest.takeHandback x fun hfull => h.removed hfull x (by rw [hwaiting]; exact List.mem_cons_self)

theorem ends_closingPad (h : s.Booked full) (i : Fin 4) : Ends (State.Booked full) (execClosingPad i s) := by
  refine ends_next (law_whenUp h (iteInduction (motive := State.Booked full) (fun hdue => ?_) fun _ => h))
  have hclosing : (s.slot i).state = .closing := by
    simp only [Slot.padDue, Bool.and_eq_true, beq_iff_eq] at hdue; exact hdue.1
  have hpadded := (h.slots i).padded hdue
  have hnotFree : (s.slot i).state ≠ .free := by rw [hclosing]; nofun
  rcases hfilling : (s.slot i).filling with _ | ⟨b, records⟩
  · rw [hfilling] at hpadded
    exact h.onSlot i (fun _ => hpadded) fun hfree => absurd hfree hnotFree
  · rw [hfilling] at hpadded
    have hone : (s.onSlot i fun sl => { sl.placed b (padRecords records) with step := .drain }).Booked full :=
      h.onSlot i (fun _ => hpadded) fun hfree => absurd hfree hnotFree
    obtain ⟨hslots, hcard⟩ := s.placeBuffer_slots i b (padRecords records)
    refine hone.of_ledger ?_
    have hslot : (s.placeBuffer i b (padRecords records)).slot i = (s.slot i).placed b (padRecords records) := by
      rw [slot, hslots]; exact s.onSlot_slot_self i _
    simp [hslot, hslots, hcard]

theorem ends_summaryBuild (h : s.Booked full) (i : Fin 4) : Ends (State.Booked full) (execSummaryBuild i s) := by
  refine ends_next (law_whenUp h ?_)
  split
  next e _ hdue _ =>
    simp only [summaryDue, Bool.and_eq_true, beq_iff_eq] at hdue
    obtain ⟨⟨⟨⟨hclosing, hdrain⟩, _⟩, hfree0⟩, hfree1⟩ := hdue
    have hbuilt : (s.onSlot i fun sl =>
        { sl.setBuffer 0 (.queuedSummary sl.summary) with step := .sealing }).Booked full :=
      h.onSlot i (fun hslot => hslot.summarised hclosing hdrain hfree0 hfree1) fun hfree =>
        absurd (hclosing.symm.trans hfree) nofun
    exact hbuilt.of_ledger rfl
  · exact h

end State.Booked
end Sys2Proof.Machine
end

section
/-! PROOFS. The closing law and the record law (O18), last layer: the commands of the card, and every command. -/

namespace Sys2Proof.Machine
namespace State

/-! ### Operations of the card that hand nothing back -/

section
variable (s : State)

@[simp] theorem startCard_handbacks (cause : CardCause) :
    (s.startCard cause).path.card.handbacks = s.path.card.handbacks := by
  simp [startCard, Card.startOver, Card.send]

@[simp] theorem startResponse_handbacks (r : StartResponse) :
    (s.startResponse r).path.card.handbacks = s.path.card.handbacks := by
  unfold startResponse; (repeat' split) <;> simp [cardReady, Card.startOver, Card.send]

@[simp] theorem takeRead_handbacks (tag : Byte) (a : ReadArgs) :
    (s.takeRead tag a).path.card.handbacks = s.path.card.handbacks := by
  unfold takeRead; (repeat' split) <;> simp

@[simp] theorem readBlock_handbacks (t : Transaction) (blocks : List Block) :
    (s.readBlock t blocks).path.card.handbacks = s.path.card.handbacks := by
  unfold readBlock; split <;> simp [Card.await, offerRead]

@[simp] theorem endUnit_handbacks : s.endUnit.path.card.handbacks = s.path.card.handbacks := by
  unfold endUnit endReadData
  (repeat' split) <;> simp [endRead]

end

namespace Booked
variable {full : Prop} {s : State}

/-! ### The commands of the card -/

theorem ends_cardDetectRise (h : s.Booked full) : Ends (State.Booked full) (execCardDetectRise s) := by
  have hpin : (s.onPins fun p => { p with cardDetect := true }).Booked full := h.of_ledger rfl
  refine ends_next (law_whenUp hpin (hpin.of_ledger ?_))
  split <;> rfl

theorem ends_cardDetectFall (h : s.Booked full) : Ends (State.Booked full) (execCardDetectFall s) := by
  have hpin : (s.onPins fun p => { p with cardDetect := false }).Booked full := h.of_ledger rfl
  refine ends_next (law_whenUp hpin (iteInduction (motive := State.Booked full) (fun _ => ?_) fun _ => ?_))
  · exact hpin.of_ledger rfl
  · exact hpin.removeCard

theorem ends_cardRescan (h : s.Booked full) (tag : Byte) : Ends (State.Booked full) (execCardRescan tag s) := by
  refine ends_next ((booked_sheltered full).request h fun u hu => hu.of_ledger ?_)
  (repeat' split) <;> simp

theorem ends_transactionBegin (h : s.Booked full) : Ends (State.Booked full) (execTransactionBegin s) := by
  refine ends_next (law_whenUp h (h.of_ledger ?_))
  split
  · rfl
  · dsimp only [onCard, Card.attempt, Card.send, Card.unwait, ledger]
    (repeat' split) <;> rfl

theorem ends_cardCommandResponse (h : s.Booked full) (good : Bool) :
    Ends (State.Booked full) (execCardCommandResponse good s) := by
  refine ends_next (law_whenUp h ?_)
  (repeat' split)
  · exact h
  · exact h
  · exact h.endAttempt _ _
  · exact h.of_ledger rfl
  · exact h.of_ledger rfl

theorem ends_writeBlockAck (h : s.Booked full) (good : Bool) :
    Ends (State.Booked full) (execWriteBlockAck good s) := by
  refine ends_next (law_whenUp h (h.of_ledger ?_))
  dsimp only
  (repeat' split) <;> rfl

theorem ends_busyEnd (h : s.Booked full) : Ends (State.Booked full) (execBusyEnd s) := by
  refine ends_next (law_whenUp h ?_)
  (repeat' split)
  · exact h
  · exact h.endAttempt _ _
  · exact h.writeDone _
  · exact h

theorem ends_busyTimeout (h : s.Booked full) : Ends (State.Booked full) (execBusyTimeout s) := by
  refine ends_next (law_whenUp h ((booked_sheltered full).expiry h fun u hu => ?_))
  split
  · exact hu
  · exact hu.endAttempt _ _

/-- The stop command of a failed read attempt. -/
theorem stopRead (h : s.Booked full) (t : Transaction) : (s.onCard fun c => c.stopRead t).Booked full := by
  refine h.of_ledger ?_
  simp only [ledger, onCard_card, Card.stopRead]
  split <;> rfl

theorem ends_cardResponseTimeout (h : s.Booked full) : Ends (State.Booked full) (execCardResponseTimeout s) := by
  refine ends_next (law_whenUp h ((booked_sheltered full).expiry h fun u hu => ?_))
  (repeat' split)
  · exact hu.of_ledger rfl
  · exact hu
  · exact (hu.stopRead _).endAttempt _ _

theorem ends_readBlockReceived (h : s.Booked full) (block : Option Block) :
    Ends (State.Booked full) (execReadBlockReceived block s) := by
  refine ends_next (law_whenUp h ?_)
  (repeat' split)
  · exact h
  · exact (h.stopRead _).endAttempt _ _
  · exact h.of_ledger (by simp)
  · exact h

/-- A read that waited too long is answered TIMEOUT, and nothing is handed back (R93). -/
theorem ends_readWaitTimeout (h : s.Booked full) : Ends (State.Booked full) (execReadWaitTimeout s) := by
  refine ends_next (law_whenUp h ((booked_sheltered full).expiry h fun u hu => hu.of_ledger ?_))
  dsimp only
  split <;> simp

end Booked
end State

/-! ### Every command -/

/-- Every command keeps the two laws. -/
theorem exec_booked {full : Prop} {s : State} (h : s.Booked full) (c : Instr) :
    Ends (State.Booked full) (exec c s) := by
  have hl := State.booked_sheltered full
  cases c with
  | pathResetEnd => exact ends_next (hl.expiry h fun u hu => hu.of_ledger (by dsimp only; split <;> simp))
  | dataReadyEdge => exact ends_next (law_whenUp h (h.of_ledger rfl))
  | sampleReadComplete bytes => exact h.ends_sampleReadComplete bytes
  | sampleIntegration => exact ends_next (law_whenUp h (h.of_ledger (by split <;> rfl)))
  | imuSilent => exact ends_next (law_whenUp h (hl.expiry h fun u hu => hu.of_ledger (by simp)))
  | shockHoldExpiry => exact ends_next (law_whenUp h (hl.expiry h fun u hu => hu.of_ledger rfl))
  | motionSetup tag args => exact h.ends_motionSetup tag args
  | imuWrite tag address data => exact ends_next (hl.request h fun u hu => hu.of_ledger (by split <;> simp))
  | imuWriteDone => exact ends_next (law_whenUp h (h.of_ledger (by split <;> simp)))
  | imuRead tag address count => exact ends_next (hl.request h fun u hu => hu.of_ledger (by split <;> simp))
  | imuReadDone bytes => exact ends_next (law_whenUp h (h.of_ledger (by (repeat' split) <;> simp)))
  | lensTable tag axis spacing entries => exact h.ends_lensTable tag axis spacing entries
  | steadyMode tag mode => exact ends_next (hl.request h fun u hu => hu.of_ledger (by (repeat' split) <;> simp))
  | recenter tag => exact ends_next (hl.request h fun u hu => hu.of_ledger (by split <;> simp))
  | loadGeometry tag args => exact h.ends_loadGeometry tag args
  | frameStartUnit => exact h.ends_frameStartUnit
  | lineUnit pixels => exact h.ends_lineUnit pixels
  | frameEndUnit => exact h.ends_frameEndUnit
  | sensorStall => exact h.ends_sensorStall
  | clipArm tag slot clip track lowWater => exact h.ends_clipArm tag slot clip track lowWater
  | extentAdd tag slot stream start length => exact h.ends_extentAdd tag slot stream start length
  | clipStart tag slot => exact h.ends_clipStart tag slot
  | clipStop tag slot last => exact h.ends_clipStop tag slot last
  | clipDrop tag slot => exact h.ends_clipDrop tag slot
  | clipData slot n payload => exact h.ends_clipData slot n payload
  | plainWrite start n payload => exact h.ends_plainWrite start n payload
  | cardDetectRise => exact h.ends_cardDetectRise
  | cardDetectFall => exact h.ends_cardDetectFall
  | cardDebounceExpiry => exact ends_next (law_whenUp h (hl.expiry h fun u hu => hu.of_ledger (by simp)))
  | cardStartResponse response => exact ends_next (law_whenUp h (h.of_ledger (by split <;> simp)))
  | startDeadlineExpiry => exact ends_next (law_whenUp h (hl.expiry h fun u hu => hu.teardown _ _ _))
  | cardRescan tag => exact h.ends_cardRescan tag
  | cardSetup tag retryLimit writeTimeout readWait =>
    exact ends_next (hl.request h fun u hu => hu.of_ledger (by split <;> simp))
  | transactionBegin => exact h.ends_transactionBegin
  | cardCommandResponse good => exact h.ends_cardCommandResponse good
  | writeBlockAck good => exact h.ends_writeBlockAck good
  | busyEnd => exact h.ends_busyEnd
  | busyTimeout => exact h.ends_busyTimeout
  | cardResponseTimeout => exact h.ends_cardResponseTimeout
  | readBlockReceived block => exact h.ends_readBlockReceived block
  | retryBegin => exact ends_next (law_whenUp h (h.of_ledger (by split <;> rfl)))
  | cardRead tag payload => exact ends_next (hl.request h fun u hu => hu.of_ledger (by split <;> simp))
  | readWaitTimeout => exact h.ends_readWaitTimeout
  | bufferHandback => exact h.ends_bufferHandback
  | closingPad slot => exact h.ends_closingPad slot
  | summaryBuild slot => exact h.ends_summaryBuild slot
  | upstreamUnitSent => exact ends_next (law_whenUp h (h.of_ledger (by simp)))
  | _ => exact hl.exec_ofMonitor h rfl

/-- The two laws are kept, together or the closing law alone. -/
theorem booked_kept (full : Prop) : Kept (State.Booked full) :=
  kept_of_exec (fun c _ t h he => exec_booked h c t he) (fun _ _ h => h.of_ledger rfl)
    fun _ h => (State.booked_sheltered full).time 1 h

/-- Settles O18: a record taken is held, lost or written, and a slot leaves step 1 with its next track frame at its stop
frame; both laws are State.Booked, which every command keeps. -/
theorem closingLawIsKept : Obligations.ClosingLawIsKept := by
  have hclosing : State.ClosingLaw = State.Booked False := funext fun s => propext s.closingLaw_iff
  have hrecord : State.RecordLaw = State.Booked True := funext fun s => propext s.recordLaw_iff
  unfold Obligations.ClosingLawIsKept
  rw [hclosing, hrecord]
  exact ⟨booked_kept False, booked_kept True⟩

end Sys2Proof.Machine
end

section
/-! PROOFS. The frame window (03): the pixels of a cut line (R47), FRAME_END_UNIT (R38, R39, R48 to R50) and
SENSOR_STALL (R53, R54, R103). -/

namespace Sys2Proof.Machine

/-! ### The cut of a line (R47) -/

theorem cutLine_short (sensorW w column : Nat) (pixels : List Pixel) :
    (cutLine sensorW w column pixels).2 = decide (min pixels.length sensorW < column + w) := by
  simp [cutLine, Nat.min_comm]

theorem cutLine_length (sensorW w column : Nat) (pixels : List Pixel) :
    (cutLine sensorW w column pixels).1.length = w := by
  simp [cutLine]

/-- A pixel that the line reaches is the one received. -/
theorem cutLine_reached {sensorW w column : Nat} {pixels : List Pixel} {j : Nat} (hj : j < w)
    (h : column + j < min pixels.length sensorW) :
    (cutLine sensorW w column pixels).1[j]? = pixels[column + j]? := by
  have hgot : j < (((pixels.take sensorW).drop column).take w).length := by simp; omega
  have hsensor : column + j < sensorW := by omega
  rw [cutLine, List.getElem?_append_left hgot, List.getElem?_take_of_lt hj, List.getElem?_drop,
    List.getElem?_take_of_lt hsensor]

/-- A pixel past the end of the line repeats the last usable one. -/
theorem cutLine_past {sensorW w column : Nat} {pixels : List Pixel} {j : Nat} (hj : j < w)
    (h : ¬column + j < min pixels.length sensorW) :
    (cutLine sensorW w column pixels).1[j]? = some ((pixels.take sensorW).getLast?.getD 0) := by
  have hgot : (((pixels.take sensorW).drop column).take w).length ≤ j := by simp; omega
  rw [cutLine, List.getElem?_append_right hgot, List.getElem?_replicate_of_lt (by omega)]

/-- Settles O35: a pixel of the window lies on the line, where it is as received, or past its end. -/
theorem cutLineHasEveryPixel : Obligations.CutLineHasEveryPixel := by
  intro sensorW w column pixels usable
  refine ⟨cutLine_length .., cutLine_short .., fun j hj => ?_⟩
  have husable : (pixels.take sensorW).length = usable := by simp [usable, Nat.min_comm]
  split
  next hreached => exact cutLine_reached hj hreached
  next hpast =>
    rw [cutLine_past hj hpast, List.getLast?_eq_getElem?, husable]
    split
    next hnone => rw [List.getElem?_eq_none (by omega)]; rfl
    next hsome =>
      have hin : usable - 1 < pixels.length := by omega
      rw [List.getElem?_take_of_lt (by omega), List.getElem?_eq_getElem hin]; rfl

/-! ### A record offered to a slot (R97 to R99, R102) -/

namespace Slot
variable {s : Slot} {r : FrameRecord}

theorem filling_eq_none_iff : s.filling = none ↔ ∀ (b : Fin 2) records, s.buffers[b] ≠ .filling records := by
  rw [Fin.forall_fin_two]
  show s.filling = none ↔ (∀ records, s.buffers[0] ≠ .filling records) ∧ ∀ records, s.buffers[1] ≠ .filling records
  rcases h0 : s.buffers[0] with _ | _ | _ | _ <;> rcases h1 : s.buffers[1] with _ | _ | _ | _ <;> simp [filling, h0, h1]

theorem placed_of_none {b : Fin 2} {records : List FrameRecord} (h : s.trackCursor.next = none) :
    s.placed b records = { s.setBuffer b .free with recordsLost := satAdd s.recordsLost (realRecords records) } := by
  simp [placed, h]

/-- A buffer placed at a track block: queued, and the cursor moved to the block after it (R99). -/
theorem placed_of_some {b : Fin 2} {records : List FrameRecord} {block : Nat} {e : Extent}
    (h : s.trackCursor.next = some block) (he : s.trackList[s.trackCursor.index]? = some e) :
    s.placed b records =
      { s.setBuffer b (.queuedTrack records) with
        trackCursor := if block + 1 < e.start + e.length then ⟨s.trackCursor.index, some (block + 1)⟩
          else ⟨s.trackCursor.index + 1, s.trackList[s.trackCursor.index + 1]?.map Extent.start⟩ } := by
  simp [placed, Cursor.advance, h, he]

theorem appended_of_room {b : Fin 2} {records : List FrameRecord} (h : s.filling = some (b, records))
    (hlen : records.length ≠ 7) : s.appended r = s.setBuffer b (.filling (records ++ [r])) := by
  simp [appended, h, hlen, Config.bufferRecords]

theorem appended_of_full {b : Fin 2} {records : List FrameRecord} (h : s.filling = some (b, records))
    (hlen : records.length = 7) : s.appended r = s.placed b (records ++ [r]) := by
  simp [appended, h, hlen, Config.bufferRecords]

theorem appended_of_full_lost {b : Fin 2} {records : List FrameRecord} (h : s.filling = some (b, records))
    (hlen : records.length = 7) (hnext : s.trackCursor.next = none) : s.appended r =
      { s.setBuffer b .free with recordsLost := satAdd s.recordsLost (realRecords (records ++ [r])) } :=
  (appended_of_full h hlen).trans (placed_of_none hnext)

theorem appended_of_full_queued {b : Fin 2} {records : List FrameRecord} {block : Nat} {e : Extent}
    (h : s.filling = some (b, records)) (hlen : records.length = 7) (hnext : s.trackCursor.next = some block)
    (he : s.trackList[s.trackCursor.index]? = some e) : s.appended r =
      { s.setBuffer b (.queuedTrack (records ++ [r])) with
        trackCursor := if block + 1 < e.start + e.length then ⟨s.trackCursor.index, some (block + 1)⟩
          else ⟨s.trackCursor.index + 1, s.trackList[s.trackCursor.index + 1]?.map Extent.start⟩ } :=
  (appended_of_full h hlen).trans (placed_of_some hnext he)

theorem appended_of_free {b : Fin 2} (h : s.filling = none) (hfree : s.freeBuffer = some b) :
    s.appended r = s.setBuffer b (.filling [r]) := by
  simp [appended, h, hfree]

theorem appended_of_no_buffer (h : s.filling = none) (hfree : s.freeBuffer = none) :
    s.appended r = { s with recordsLost := satAdd s.recordsLost 1 } := by
  simp [appended, h, hfree]

/-- A record taken with track on: stamped, the next track frame moved on, the record appended, step 1 judged. -/
theorem offered_of_track (hcovers : s.covers r.number = true) (htrack : s.track = true) {x : Slot}
    (hx : appended
      { s with
        firstStamp := if s.startFrame = some r.number then some r.start else s.firstStamp
        nextTrack := s.nextTrack.map fun n => n + 1 } r = x) :
    s.offered r = { x with step := if x.step = .owed ∧ x.nextTrack = x.stopFrame then .pad else x.step } := by
  rw [offered, if_pos hcovers, if_pos htrack, stamped_eq, ← judgeOwed_eq, ← hx]; rfl

end Slot

namespace State
variable {s u : State} {r : FrameRecord}

/-- What an offered record makes of the slots and the card depends on these alone. -/
theorem offerRecord_congr (hslots : u.path.slots = s.path.slots) (hcard : u.path.card = s.path.card) (i : Fin 4) :
    (State.offerRecord r u i).path.slots = (State.offerRecord r s i).path.slots ∧
      (State.offerRecord r u i).path.card = (State.offerRecord r s i).path.card := by
  have hslot : u.slot i = s.slot i := by simp only [slot, hslots]
  by_cases h : (s.slot i).covers r.number = true ∧ (s.slot i).track = true ∧ (s.slot i).fills ≠ none
  · obtain ⟨hcovers, htrack, hfills⟩ := h
    obtain ⟨⟨b, block⟩, hsome⟩ := Option.ne_none_iff_exists'.mp hfills
    rw [offerRecord_of_fills hcovers htrack hsome, offerRecord_of_fills (s := u) (hslot ▸ hcovers) (hslot ▸ htrack)
      (hslot ▸ hsome)]
    simp [joinTrack, hslot, hslots, hcard]
  · have hnone : (s.slot i).covers r.number = true → (s.slot i).track = true → (s.slot i).fills = none :=
      fun hcovers htrack => of_not_not fun hne => h ⟨hcovers, htrack, hne⟩
    rw [offerRecord_of_no_fill hnone, offerRecord_of_no_fill (s := u) (hslot ▸ hnone)]
    simp [hslot, hslots, hcard]

theorem takeRecord_congr (hslots : u.path.slots = s.path.slots) (hcard : u.path.card = s.path.card) :
    (u.takeRecord r).path.slots = (s.takeRecord r).path.slots ∧
      (u.takeRecord r).path.card = (s.takeRecord r).path.card := by
  unfold takeRecord
  induction slotIndices generalizing s u with
  | nil => exact ⟨hslots, hcard⟩
  | cons i rest ih =>
    obtain ⟨hslots', hcard'⟩ := offerRecord_congr (r := r) hslots hcard i
    exact ih hslots' hcard'

theorem takeRecord_eq (s : State) (r : FrameRecord) :
    s.takeRecord r =
      State.offerRecord r (State.offerRecord r (State.offerRecord r (State.offerRecord r s 0) 1) 2) 3 := by
  simp only [takeRecord, slotIndices, List.foldl_cons, List.foldl_nil]

/-- The close of a frame, part by part (R49, R50). -/
theorem closeFrame_parts (s : State) (f : OpenFrame) (forced : Bool) {short : Bool} {record : FrameRecord}
    (hshort : (forced || decide (f.lines < f.geometry.h)) = short)
    (hrecord : f.record s.path.engine.flags short s.path.intake.framePeak = record) :
    (s.closeFrame f forced).path.window =
      { s.path.window with
        frame := none
        shortFrames := if short then satAdd s.path.window.shortFrames 1 else s.path.window.shortFrames } ∧
    (s.closeFrame f forced).path.engine = { s.path.engine with flags := FrameFlags.empty } ∧
    (s.closeFrame f forced).path.link =
      (State.chooseUnit { s with path.link.stream := s.path.link.stream ++ [.trailer record] }).path.link ∧
    (s.closeFrame f forced).path.slots = (s.takeRecord record).path.slots ∧
    (s.closeFrame f forced).path.card = (s.takeRecord record).path.card := by
  rw [s.closeFrame_eq f forced hshort hrecord]
  generalize hu : State.chooseUnit _ = u
  obtain ⟨_, _, _, _, hengine, hwindow, hlink, _⟩ := u.takeRecord_frame record
  have hmoved := takeRecord_congr (u := u) (s := s) (r := record) (by rw [← hu]; rfl) (by rw [← hu]; rfl)
  refine ⟨hwindow.trans ?_, hengine.trans ?_, hlink.trans ?_, hmoved⟩ <;> rw [← hu] <;> rfl

end State

/-! ### FRAME_END_UNIT (R38, R39, R48, R49) -/

theorem exec_frameEndUnit_between {s : State} (hup : s.pathUp = true) (hpath : s.path.window.path = .between) :
    exec .frameEndUnit s = .next s := by
  show execFrameEndUnit s = _
  rw [execFrameEndUnit, State.whenUp_of_pathUp hup, hpath]

theorem exec_frameEndUnit_idle {s : State} (hup : s.pathUp = true) (hpath : s.path.window.path = .idle) :
    exec .frameEndUnit s = .next (s.onWindow fun w => { w with discardMarker := false }) := by
  show execFrameEndUnit s = _
  rw [execFrameEndUnit, State.whenUp_of_pathUp hup, hpath]

theorem exec_frameEndUnit_inFrame {s : State} {f : OpenFrame} {g : Geometry} (hup : s.pathUp = true)
    (hpath : s.path.window.path = .inFrame) (hframe : s.path.window.frame = some f)
    (hgeometry : s.path.window.geometry = some g) :
    exec .frameEndUnit s = .next ((s.closeFrame f false).onWindow fun w =>
      { w with watch := some (watchFrom s.now g), path := .between }) := by
  show execFrameEndUnit s = _
  rw [execFrameEndUnit, State.whenUp_of_pathUp hup, hpath, hframe, hgeometry]

/-- Settles O36: the close of the frame in full, and then what an offered record makes of one slot, by whether its clip
covers it, its track setting, and the buffer that takes it. -/
theorem frameEndClosesTheFrame : Obligations.FrameEndClosesTheFrame := by
  refine ⟨fun s hup => ⟨exec_frameEndUnit_between hup, exec_frameEndUnit_idle hup,
    fun f g hpath hframe hgeometry => ?_⟩, fun s r => ⟨s.takeRecord_eq r, fun i => ?_⟩⟩
  · intro short record
    obtain ⟨hwindow, hengine, hlink, hslots, hcard⟩ :=
      s.closeFrame_parts f false (short := short) (record := record) rfl rfl
    obtain ⟨_, _, hmon, hintake, _⟩ := s.closeFrame_frame f false
    refine ⟨_, exec_frameEndUnit_inFrame hup hpath hframe hgeometry, ?_⟩
    generalize s.closeFrame f false = closed at hwindow hengine hlink hslots hcard hmon hintake ⊢
    refine ⟨?_, hengine, hlink, hslots, hcard, hintake, hmon⟩
    rw [State.onWindow_window, hwindow]; rfl
  · intro sl covered stamp put
    have hcovers : covered ↔ sl.covers r.number = true := (sl.covers_iff r.number).symm
    refine ⟨fun hnot => State.offerRecord_of_not_covers (hcovers.not.mp hnot), fun hcov htrack => ?_,
      fun hcov htrack => ?_⟩
    · rw [State.offerRecord_of_track_off (hcovers.mp hcov) htrack]
      exact congrArg put (sl.stamped_eq r)
    · intro next n
      have hoffered := fun x : Slot => Slot.offered_of_track (hcovers.mp hcov) htrack (x := x)
      have hmoved := fun x hx (hfills : sl.fills = none) =>
        (State.offerRecord_of_no_fill fun _ _ => hfills).trans (congrArg put (hoffered x hx))
      refine ⟨fun b records hfilling => ⟨Slot.filling_eq_some hfilling, ?_⟩, fun hnone => ?_, Slot.filling_eq_none_iff⟩
      · intro all
        refine ⟨fun hlen => ?_, fun hlen hnext => ?_, fun block e hlen hnext he => ?_⟩
        · have hroom := hmoved _ (Slot.appended_of_room hfilling hlen)
          exact hroom (by simp [Slot.fills, hfilling, hlen])
        · have hlost := hmoved _ (Slot.appended_of_full_lost hfilling hlen hnext)
          exact hlost (by simp [Slot.fills, hnext])
        · have hqueued := hoffered _ (Slot.appended_of_full_queued hfilling hlen hnext he)
          have hfills : sl.fills = some (b, block) := Slot.fills_eq_some.mpr ⟨records, hfilling, hlen, hnext⟩
          rw [State.offerRecord_of_fills (hcovers.mp hcov) htrack hfills, s.onSlot_congr i (g := fun _ => _) hqueued]
          rfl
      · have hempty : sl.filling = none := Slot.filling_eq_none_iff.mpr hnone
        have hfills : sl.fills = none := by simp [Slot.fills, hempty]
        refine ⟨fun hfree => ?_, fun hheld hfree => ?_, fun hheld0 hheld1 => ?_⟩
        · have hfirst := hmoved _ (Slot.appended_of_free (b := 0) hempty (if_pos hfree))
          exact hfirst hfills
        · have hsecond := hmoved _ (Slot.appended_of_free (b := 1) hempty ((if_neg hheld).trans (if_pos hfree)))
          exact hsecond hfills
        · have hlost := hmoved _ (Slot.appended_of_no_buffer hempty ((if_neg hheld0).trans (if_neg hheld1)))
          exact hlost hfills

/-! ### SENSOR_STALL (R53, R54, R103) -/

namespace Slot
variable {s : Slot} {counter : FrameNo}

/-- A slot that owes no frame is left by the cut. -/
theorem cutOwed_of_not_owing (h : s.state ≠ .closing ∨ s.step ≠ .owed) : s.cutOwed counter = s :=
  if_neg fun ⟨hclosing, howed⟩ => h.elim (· hclosing) (· howed)

theorem cutStop_of_stop {start stop : FrameNo} (hstart : s.startFrame = some start) (hstop : s.stopFrame = some stop) :
    s.cutStop counter =
      { s with stopFrame := some (if (counter - start).toNat < (stop - start).toNat then counter else stop) } := by
  by_cases hafter : (counter - start).toNat < (stop - start).toNat
  · simp only [cutStop, hstart, hstop, frameOffset, if_pos hafter]
  · have hleft : s.cutStop counter = s := by simp only [cutStop, hstart, hstop, frameOffset, if_neg hafter]
    rw [if_neg hafter, ← hstop, hleft]

/-- The cut of a slot that owes frames: the stop frame cut, and step 1 judged again (R103). -/
theorem cutOwed_of_owing {start stop cut : FrameNo} (hclosing : s.state = .closing) (howed : s.step = .owed)
    (hstart : s.startFrame = some start) (hstop : s.stopFrame = some stop)
    (hcut : (if (counter - start).toNat < (stop - start).toNat then counter else stop) = cut) :
    s.cutOwed counter = { s with stopFrame := some cut, step := if s.nextTrack = some cut then .pad else .owed } := by
  rw [cutOwed, if_pos ⟨hclosing, howed⟩, cutStop_of_stop hstart hstop, hcut, judgeOwed_eq]
  simp [howed]

end Slot

namespace State

theorem cutAllOwed_slot (s : State) (i : Fin 4) :
    s.cutAllOwed.slot i = (s.slot i).cutOwed s.path.window.frameCounter := by
  match i with
  | 0 | 1 | 2 | 3 => simp [cutAllOwed, slotIndices, slot_onSlot]

/-- A notice offered does not read the window. -/
theorem notify_onWindow_link (s : State) (f : Window → Window) (n : Notice) :
    ((s.onWindow f).notify n).path.link = (s.notify n).path.link := by
  rcases s.notify_cases n with ⟨hup, hnotify⟩ | ⟨hdown, hnotify⟩
  · rw [hnotify, notify, onWindow_pathUp, if_pos hup]; rfl
  · rw [hnotify, notify, onWindow_pathUp, hdown]; rfl

/-- The notice of a stall, of the state that it finds. -/
def stallNotice (s : State) : Notice :=
  .sensorStall s.path.window.path s.path.window.lastBegun (s.path.window.frame.map OpenFrame.lines)
    (s.path.window.frame.map OpenFrame.rows) s.path.window.frameCounter (satAdd s.path.window.stalls 1)

/-- A stall once the open frame is closed: counted, noticed, the owed frames cut, the watch removed, the path IDLE. -/
def stalled (u : State) (n : Notice) : State :=
  ((u.onWindow fun w => { w with stalls := satAdd w.stalls 1 }).notify n).cutAllOwed.onWindow fun w =>
    { w with watch := none, path := .idle }

/-- What a stall moves beyond the open frame: the window, the slots and the link. -/
theorem stalled_parts (u : State) (n : Notice) :
    (u.stalled n).path.window =
      { u.path.window with watch := none, path := .idle, stalls := satAdd u.path.window.stalls 1 } ∧
    (∀ i, (u.stalled n).slot i = (u.slot i).cutOwed u.path.window.frameCounter) ∧
    (u.stalled n).path.link = (u.notify n).path.link ∧
    (u.stalled n).path.intake = u.path.intake ∧ (u.stalled n).path.engine = u.path.engine ∧
    (u.stalled n).path.card = u.path.card ∧ (u.stalled n).mon = u.mon := by
  refine ⟨by simp [stalled], fun i => ?_, ?_, by simp [stalled], by simp [stalled], by simp [stalled],
    by simp [stalled]⟩
  · rw [stalled, onWindow_slot, cutAllOwed_slot]
    simp [slot]
  · rw [← u.notify_onWindow_link (fun w => { w with stalls := satAdd w.stalls 1 })]
    simp [stalled]

theorem closeShort_of_no_frame {s : State} (h : s.path.window.frame = none) : s.closeShort = s := by
  simp [closeShort, h]

theorem closeShort_of_frame {s : State} {f : OpenFrame} (h : s.path.window.frame = some f) :
    s.closeShort = s.closeFrame f true := by
  simp [closeShort, h]

/-- Closing the open frame short leaves the window with none open, and moves the count of short frames alone. -/
theorem closeShort_window_eq (s : State) :
    ∃ shortFrames, s.closeShort.path.window = { s.path.window with frame := none, shortFrames := shortFrames } := by
  rcases hframe : s.path.window.frame with _ | f
  · rw [closeShort_of_no_frame hframe, ← hframe]
    exact ⟨_, rfl⟩
  · obtain ⟨hwindow, _⟩ := s.closeFrame_parts f true (short := true) rfl rfl
    rw [closeShort_of_frame hframe, hwindow]
    exact ⟨_, rfl⟩

/-- An open frame closed short: its record at the end of the frame stream, counted, the frame flags emptied. -/
theorem closeShort_parts {s : State} {f : OpenFrame} (h : s.path.window.frame = some f) :
    s.closeShort.path.link.stream = s.path.link.stream ++
      [.trailer (f.record s.path.engine.flags true s.path.intake.framePeak)] ∧
    s.closeShort.path.window.shortFrames = satAdd s.path.window.shortFrames 1 ∧
    s.closeShort.path.engine.flags = .empty := by
  obtain ⟨hwindow, hengine, hlink, _⟩ := s.closeFrame_parts f true (short := true) rfl rfl
  rw [closeShort_of_frame h, hwindow, hengine, hlink]
  exact ⟨by simp, rfl, rfl⟩

end State

theorem exec_sensorStall {s : State} {d : Time} (hup : s.pathUp = true) (hwatch : s.path.window.watch = some d)
    (harrives : s.nothingEarlier (s.pathLeft d) = true) :
    exec .sensorStall s = .next ((s.elapse (s.pathLeft d)).closeShort.stalled s.stallNotice) := by
  obtain ⟨_, _, _, hwindow, _⟩ := s.elapse_frame (s.pathLeft d)
  obtain ⟨_, hclosed⟩ := (s.elapse (s.pathLeft d)).closeShort_window_eq
  show execSensorStall s = _
  rw [execSensorStall, State.whenUp_of_pathUp hup, hwatch, Option.map_some,
    State.expiry_of_nothingEarlier harrives]
  simp only [State.stalled, State.stallNotice, State.onWindow_window, hclosed, hwindow]

/-- Settles O37: the frame closed short, and then what the stall moves of the window, the slots and the link. -/
theorem sensorStallClosesAndCuts : Obligations.SensorStallClosesAndCuts := by
  intro s d hup hwatch harrives u
  obtain ⟨_, _, hengine, hwindow, _, _, hlink, _⟩ := s.elapse_frame (s.pathLeft d)
  have hintake := s.elapse_intake (s.pathLeft d)
  obtain ⟨_, hclosed⟩ := (s.elapse (s.pathLeft d)).closeShort_window_eq
  obtain ⟨hstalled, hslots, hnoticed, hkept⟩ := u.stalled_parts s.stallNotice
  have hcounter : u.path.window.frameCounter = s.path.window.frameCounter := by rw [hclosed, hwindow]
  have hstalls : u.path.window.stalls = s.path.window.stalls := by rw [hclosed, hwindow]
  have hframe : u.path.window.frame = none := by rw [hclosed]
  rw [hcounter] at hslots
  rw [hstalls] at hstalled
  refine ⟨_, exec_sensorStall hup hwatch harrives, hstalled, ?_, ?_, hslots, fun i => ⟨fun hother => ?_, ?_⟩, ?_⟩
  · rw [hstalled]; exact hframe
  · rw [hstalled]; exact hcounter
  · rw [hslots]; exact Slot.cutOwed_of_not_owing hother
  · intro start stop hclosing howed hstart hstop cut
    rw [hslots]
    exact Slot.cutOwed_of_owing hclosing howed hstart hstop rfl
  · obtain ⟨hi, he, hc, hm⟩ := hkept
    refine ⟨hi, he, hc, hm, hnoticed, fun f hopen => ?_⟩
    have hshort := State.closeShort_parts (s := s.elapse (s.pathLeft d)) (f := f) (by rw [hwindow, hopen])
    rw [hlink, hwindow, hengine, hintake] at hshort
    exact hshort

end Sys2Proof.Machine
end

section
/-! PROOFS. Laws that read neither the motion intake nor the steadying engine nor the frame window: every command of
those three blocks keeps such a law, where an offered record, a cut of owed frames and an overlap mark do. -/

namespace Sys2Proof

/-- The commands of the motion intake, the steadying engine and the frame window. -/
def Instr.ofSensor (c : Instr) : Bool :=
  match c with
  | .dataReadyEdge | .sampleReadComplete _ | .sampleIntegration | .imuSilent | .shockHoldExpiry | .motionSetup _ _
  | .imuWrite _ _ _ | .imuWriteDone | .imuRead _ _ _ | .imuReadDone _ | .lensTable _ _ _ _ | .steadyMode _ _
  | .recenter _ | .loadGeometry _ _ | .frameStartUnit | .lineUnit _ | .frameEndUnit | .sensorStall => true
  | _ => false

end Sys2Proof

namespace Sys2Proof.Machine

/-- A sheltered law that reads neither intake nor engine nor window. What those blocks do to the slots and the card is
said by the last three fields: records offered, owed frames cut, and the overlap mark of a shock. -/
structure Unsensed (law : State → Prop) : Prop extends Sheltered law where
  intake : ∀ {s : State} (f : Intake → Intake), law s → law (s.onIntake f)
  engine : ∀ {s : State} (f : Engine → Engine), law s → law (s.onEngine f)
  window : ∀ {s : State} (f : Window → Window), law s → law (s.onWindow f)
  offerRecord : ∀ {s : State} (r : FrameRecord) (i : Fin 4), law s → law (State.offerRecord r s i)
  cutOwed : ∀ {s : State} (i : Fin 4) (counter : FrameNo), law s → law (s.onSlot i fun sl => sl.cutOwed counter)
  markOverlap : ∀ {s : State}, law s → law (s.onCard Card.markOverlap)

namespace Unsensed
variable {law : State → Prop} (hl : Unsensed law) {s : State} (h : law s)
include hl h

/-! ### Operations of the three blocks -/

theorem shockCheck (stamp : Time) (sum : Nat) : law (s.shockCheck stamp sum) :=
  iteInduction (motive := law) (fun _ => hl.markOverlap (hl.engine _ (hl.intake _ h))) fun _ => h

theorem takeSample (stamp : Time) (r : RawSample) : law (s.takeSample stamp r) :=
  hl.shockCheck (hl.engine _ (hl.intake _ h)) _ _

theorem swap : law s.swap := by
  have hgeometry : law s.swapGeometry := by
    unfold State.swapGeometry
    split
    · exact h
    · exact hl.window _ h
  have hmotion : law s.swapGeometry.swapMotion := by
    unfold State.swapMotion
    split
    · exact hgeometry
    · exact hl.engine _ (hl.intake _ hgeometry)
  exact iteInduction (motive := law) (fun _ => hl.window _ (hl.engine _ hmotion)) fun _ => h

theorem swapIfIdle : law s.swapIfIdle := iteInduction (motive := law) (fun _ => hl.swap h) fun _ => h

theorem takeRecord (r : FrameRecord) : law (s.takeRecord r) :=
  List.foldlRecOn _ _ h fun _ hu i _ => hl.offerRecord r i hu

theorem cutAllOwed : law s.cutAllOwed := List.foldlRecOn _ _ h fun _ hu i _ => hl.cutOwed i _ hu

theorem pushStream (u : StreamUnit) : law (s.pushStream u) := hl.chooseUnit (hl.link _ h)

theorem closeFrame (f : OpenFrame) (forced : Bool) : law (s.closeFrame f forced) :=
  hl.takeRecord (hl.pushStream (hl.window _ (hl.engine _ h)) _) _

theorem closeShort : law s.closeShort := by
  unfold State.closeShort
  split
  · exact h
  · exact hl.closeFrame h _ _

theorem beginFrame (g : Geometry) : law (s.beginFrame g) := by
  unfold State.beginFrame
  exact hl.window _ (hl.pushStream (hl.engine _ (hl.intake _ (hl.window _ h))) _)

theorem numberedStart : law s.numberedStart := by
  have hswapped := hl.swap (hl.closeShort h)
  unfold State.numberedStart
  dsimp only
  split
  · exact hswapped
  · exact hl.beginFrame hswapped _

theorem passLine (f : OpenFrame) (i : Nat) (pixels : List Pixel) : law (s.passLine f i pixels) :=
  iteInduction (motive := law) (fun _ => hl.window _ (hl.pushStream h _)) fun _ => hl.window _ h

theorem frameLine (f : OpenFrame) (g : Geometry) (pixels : List Pixel) : law (s.frameLine f g pixels) := by
  have hrow := fun (w : Window → Window) => hl.window w h
  have hband := fun (w : Window → Window) (e : Engine → Engine) (w' : Window → Window) =>
    hl.window w' (hl.engine e (hrow w))
  unfold State.frameLine State.bandStart
  dsimp only
  split
  · exact hrow _
  · split
    · exact iteInduction (motive := law) (fun _ => hband _ _ _) fun _ => hrow _
    · exact hl.passLine (iteInduction (motive := law) (fun _ => hband _ _ _) fun _ => hrow _) _ _ _

/-! ### The commands -/

theorem ends_sampleReadComplete (bytes : Vector Byte 12) : Ends law (execSampleReadComplete bytes s) := by
  refine ends_next (law_whenUp h ?_)
  split
  · exact iteInduction (motive := law) (fun _ => hl.takeSample (hl.intake _ h) _ _) fun _ => hl.intake _ h
  · exact h

theorem ends_motionSetup (tag : Byte) (args : MotionArgs) : Ends law (execMotionSetup tag args s) := by
  refine ends_next (hl.request h fun u hu => ?_)
  split
  · exact hl.answer hu _ _
  · exact hl.answer (hl.swapIfIdle (hl.intake _ hu)) _ _

theorem ends_lensTable (tag : Byte) (axis : Option LensAxis) (spacing : Nat) (entries : Vector Nat 17) :
    Ends law (execLensTable tag axis spacing entries s) := by
  refine ends_next (hl.request h fun u hu => ?_)
  (repeat' split)
  · exact hl.answer hu _ _
  · exact hl.answer hu _ _
  · exact hl.answer hu _ _
  · exact hl.answer (hl.swapIfIdle (hl.engine _ hu)) _ _

theorem ends_steadyMode (tag : Byte) (mode : Option Mode) : Ends law (execSteadyMode tag mode s) := by
  refine ends_next (hl.request h fun u hu => ?_)
  (repeat' split)
  · exact hl.answer hu _ _
  · exact hl.answer hu _ _
  · exact hl.answer (hl.engine _ hu) _ _
  · exact hl.answer (hl.engine _ hu) _ _

theorem ends_loadGeometry (tag : Byte) (args : Geometry) : Ends law (execLoadGeometry tag args s) := by
  refine ends_next (hl.request h fun u hu => ?_)
  (repeat' split)
  · exact hl.answer hu _ _
  · exact hl.answer hu _ _
  · exact hl.answer (hl.swapIfIdle (hl.window _ hu)) _ _

theorem ends_imuWrite (tag : Byte) (address : Nat) (data : List Byte) :
    Ends law (execImuWrite tag address data s) := by
  refine ends_next (hl.request h fun u hu => ?_)
  split
  · exact hl.answer hu _ _
  · exact hl.intake _ hu

theorem ends_imuRead (tag : Byte) (address count : Nat) : Ends law (execImuRead tag address count s) := by
  refine ends_next (hl.request h fun u hu => ?_)
  split
  · exact hl.answer hu _ _
  · exact hl.intake _ hu

theorem ends_imuReadDone (bytes : List Byte) : Ends law (execImuReadDone bytes s) := by
  refine ends_next (law_whenUp h ?_)
  (repeat' split)
  · exact hl.reply (hl.intake _ h) _ _ _
  · exact h
  · exact h

theorem ends_frameStartUnit : Ends law (execFrameStartUnit s) := by
  have hstart : law (if s.path.window.geometry.isNone then s.swap else s) :=
    iteInduction (motive := law) (fun _ => hl.swap h) fun _ => h
  refine ends_next (law_whenUp h (iteInduction (motive := law) (fun _ => ?_) fun _ => ?_))
  · exact hl.window _ hstart
  · exact hl.numberedStart hstart

theorem ends_lineUnit (pixels : List Pixel) : Ends law (execLineUnit pixels s) := by
  refine ends_next (law_whenUp h ?_)
  (repeat' split)
  · exact hl.frameLine h _ _ _
  · exact h
  · exact h
  · exact hl.window _ h
  · exact hl.window _ h

theorem ends_frameEndUnit : Ends law (execFrameEndUnit s) := by
  refine ends_next (law_whenUp h ?_)
  split
  · exact hl.window _ (hl.closeFrame h _ _)
  · exact h
  · exact hl.window _ h
  · exact h

theorem ends_sensorStall : Ends law (execSensorStall s) :=
  ends_next (law_whenUp h (hl.expiry h fun _ hu =>
    hl.window _ (hl.cutAllOwed (hl.notify (hl.window _ (hl.closeShort hu)) _))))

/-- A command of the motion intake, the steadying engine or the frame window keeps an unsensed law. -/
theorem exec_ofSensor {c : Instr} (hc : c.ofSensor = true) : Ends law (exec c s) := by
  cases c with
  | dataReadyEdge => exact ends_next (law_whenUp h (hl.intake _ h))
  | sampleReadComplete bytes => exact hl.ends_sampleReadComplete h bytes
  | sampleIntegration =>
    refine ends_next (law_whenUp h ?_)
    split
    · exact hl.intake _ (hl.engine _ h)
    · exact h
  | imuSilent => exact ends_next (law_whenUp h (hl.expiry h fun _ hu => hl.notify (hl.intake _ hu) _))
  | shockHoldExpiry => exact ends_next (law_whenUp h (hl.expiry h fun _ hu => hl.intake _ hu))
  | motionSetup tag args => exact hl.ends_motionSetup h tag args
  | imuWrite tag address data => exact hl.ends_imuWrite h tag address data
  | imuWriteDone =>
    refine ends_next (law_whenUp h ?_)
    split
    · exact hl.answer (hl.intake _ h) _ _
    · exact h
  | imuRead tag address count => exact hl.ends_imuRead h tag address count
  | imuReadDone bytes => exact hl.ends_imuReadDone h bytes
  | lensTable tag axis spacing entries => exact hl.ends_lensTable h tag axis spacing entries
  | steadyMode tag mode => exact hl.ends_steadyMode h tag mode
  | recenter tag =>
    refine ends_next (hl.request h fun u hu => ?_)
    split <;> exact hl.answer (hl.engine _ hu) _ _
  | loadGeometry tag args => exact hl.ends_loadGeometry h tag args
  | frameStartUnit => exact hl.ends_frameStartUnit h
  | lineUnit pixels => exact hl.ends_lineUnit h pixels
  | frameEndUnit => exact hl.ends_frameEndUnit h
  | sensorStall => exact hl.ends_sensorStall h
  | _ => cases hc

end Unsensed
end Sys2Proof.Machine
end

section
/-! PROOFS. What a command makes of the blocks that the slots and the plain writes hold, of the slots that record, and of
the attempt on the card: first layer, what it is for a slot, a card and a state to follow another, and the operations on
slots, records and the queue. -/

namespace Sys2Proof

/-- The commands that give blocks of the card to a slot or to a plain write. -/
def Instr.claimsBlocks (c : Instr) : Bool :=
  match c with
  | .extentAdd _ _ _ _ _ | .plainWrite _ _ _ => true
  | _ => false

/-- The command that has a slot record. -/
def Instr.startsClip (c : Instr) : Bool :=
  match c with
  | .clipStart _ _ => true
  | _ => false

/-- The commands that begin an attempt on the card. -/
def Instr.beginsAttempt (c : Instr) : Bool :=
  match c with
  | .transactionBegin | .retryBegin => true
  | _ => false

end Sys2Proof

namespace Sys2Proof.Machine

/-! ### Slots -/

/-- The extents that a slot holds: none while it is FREE (R56). -/
def Slot.held (s : Slot) : List Extent := if s.state = .free then [] else s.video ++ s.trackList

theorem State.heldExtents_eq (s : State) : s.heldExtents = slotIndices.flatMap fun i => (s.slot i).held := rfl

/-- What a command other than those that may makes of a slot: it holds no new extent and does not begin to record. -/
structure Slot.Follows (c : Instr) (a b : Slot) : Prop where
  held : c.claimsBlocks = false → b.held.Sublist a.held
  recording : c.startsClip = false → b.state = .recording → a.state = .recording

namespace Slot
variable {c : Instr} {a b d : Slot}

theorem Follows.trans (h : a.Follows c b) (h' : b.Follows c d) : a.Follows c d :=
  ⟨fun hc => (h'.held hc).trans (h.held hc), fun hc hd => h.recording hc (h'.recording hc hd)⟩

theorem follows_of_eq (hstate : b.state = a.state) (hvideo : b.video = a.video) (htrack : b.trackList = a.trackList) :
    a.Follows c b := by
  have hheld : b.held = a.held := by simp only [held, hstate, hvideo, htrack]
  exact ⟨fun _ => hheld ▸ .refl _, fun _ hb => hstate ▸ hb⟩

theorem follows_of_free (h : b.state = .free) : a.Follows c b := by
  have hheld : b.held = [] := if_pos h
  exact ⟨fun _ => hheld ▸ List.nil_sublist _, fun _ hb => absurd (h.symm.trans hb) nofun⟩

theorem follows_armed (clip : Nat) (track : Bool) (lowWater : Nat) : a.Follows c (armed clip track lowWater) :=
  ⟨fun _ => List.nil_sublist _, fun _ hb => absurd hb nofun⟩

/-- A slot that closes holds the extents it held. -/
theorem follows_close (h : a.state = .recording) (stop : FrameNo) (cause : SealCause) (idle : Bool)
    (counter : FrameNo) : a.Follows c (a.close stop cause idle counter) := by
  obtain ⟨⟨last, step, heq⟩, _⟩ := a.close_eq stop cause idle counter
  have hheld : (a.close stop cause idle counter).held = a.held := by rw [heq]; simp [held, h]
  exact ⟨fun _ => hheld ▸ .refl _, fun _ _ => h⟩

theorem cutOwed_eq (s : Slot) (counter : FrameNo) :
    ∃ stop step, s.cutOwed counter = { s with stopFrame := stop, step := step } := by
  obtain ⟨stop, hstop⟩ := s.cutStop_eq counter
  unfold cutOwed
  split
  · exact ⟨stop, _, by rw [hstop, judgeOwed_eq]⟩
  · exact ⟨_, _, rfl⟩

theorem follows_cutOwed (s : Slot) (counter : FrameNo) : s.Follows c (s.cutOwed counter) := by
  obtain ⟨_, _, heq⟩ := s.cutOwed_eq counter
  exact follows_of_eq (by rw [heq]) (by rw [heq]) (by rw [heq])

theorem follows_placed (s : Slot) (b : Fin 2) (records : List FrameRecord) : s.Follows c (s.placed b records) := by
  obtain ⟨_, _, _, heq⟩ := s.placed_eq b records
  exact follows_of_eq (by rw [heq]) (by rw [heq]) (by rw [heq])

theorem follows_offered (s : Slot) (r : FrameRecord) : s.Follows c (s.offered r) := by
  have hstamped : s.Follows c (s.stamped r) := by rw [stamped_eq]; exact follows_of_eq rfl rfl rfl
  obtain ⟨_, _, _, happended⟩ := (s.stamped r).advanced.appended_eq r
  unfold offered
  (repeat' split)
  · refine hstamped.trans ?_
    rw [judgeOwed_eq, happended]
    exact follows_of_eq rfl rfl rfl
  · exact hstamped
  · exact follows_of_eq rfl rfl rfl

theorem follows_countGap (s : Slot) : s.Follows c s.countGap := by
  unfold countGap; split <;> exact follows_of_eq rfl rfl rfl

end Slot

/-! ### The card -/

/-- What a command other than those that may makes of the card: no plain write joins the queue, and no attempt begins. -/
structure Card.Follows (c : Instr) (a b : Card) : Prop where
  plain : c.claimsBlocks = false → ∀ e ∈ b.queue, e.owner = .plain → e ∈ a.queue
  attempt : c.beginsAttempt = false → ∀ x, b.transaction = some x → x.phase = .command →
    ∃ y, a.transaction = some y ∧ y.phase = .command

namespace Card
variable {c : Instr} {a b d : Card}

theorem Follows.trans (h : a.Follows c b) (h' : b.Follows c d) : a.Follows c d := by
  refine ⟨fun hc e he hplain => h.plain hc e (h'.plain hc e he hplain) hplain, fun hc x hx hphase => ?_⟩
  obtain ⟨y, hy, hphase'⟩ := h'.attempt hc x hx hphase
  exact h.attempt hc y hy hphase'

theorem follows_of_eq (hqueue : b.queue = a.queue) (htransaction : b.transaction = a.transaction) : a.Follows c b :=
  ⟨fun _ _ he _ => hqueue ▸ he, fun _ x hx hphase => ⟨x, htransaction ▸ hx, hphase⟩⟩

/-- The queue as it was or shorter, and no transaction in its command phase. -/
theorem follows_of_quiet (hqueue : b.queue ⊆ a.queue)
    (hquiet : ∀ x, b.transaction = some x → x.phase ≠ .command) : a.Follows c b :=
  ⟨fun _ _ he _ => hqueue he, fun _ x hx hphase => absurd hphase (hquiet x hx)⟩

/-- A track buffer or clip data that joins the queue is no plain write. -/
theorem follows_join (a : Card) (i : Fin 4) (stream : EntryStream) (start count : Nat) (data : EntryData) :
    a.Follows c (a.join (.slot i stream) start count data) := by
  refine ⟨fun _ e he hplain => ?_, fun _ x hx hphase => ⟨x, hx, hphase⟩⟩
  obtain hold | hnew := List.mem_append.mp he
  · exact hold
  · rw [List.mem_singleton.mp hnew] at hplain; cases hplain

theorem follows_joinPieces (a : Card) (i : Fin 4) (pieces : List (Nat × List Block)) :
    a.Follows c (a.joinPieces i pieces) :=
  List.foldlRecOn (motive := fun b : Card => a.Follows c b) _ _ (follows_of_eq rfl rfl) fun b hb _ _ =>
    hb.trans (b.follows_join i .video _ _ _)

end Card

/-! ### The state -/

namespace State

/-- The slots, the write queue and the transaction: what the two notions above read of a state. -/
@[simp] def workload (s : State) : Vector Slot 4 × List Entry × Option Transaction :=
  (s.path.slots, s.path.card.queue, s.path.card.transaction)

/-- A state whose slots and card follow those of another. -/
structure Follows (c : Instr) (s t : State) : Prop where
  slots : ∀ i, (s.slot i).Follows c (t.slot i)
  card : s.path.card.Follows c t.path.card

namespace Follows
variable {c : Instr} {s t u : State}

theorem of_workload (h : s.Follows c t) (he : u.workload = t.workload) : s.Follows c u := by
  simp only [workload, Prod.mk.injEq] at he
  obtain ⟨hslots, hqueue, htransaction⟩ := he
  refine ⟨fun i => ?_, h.card.trans (Card.follows_of_eq hqueue htransaction)⟩
  simpa only [slot, hslots] using h.slots i

theorem refl (c : Instr) (s : State) : s.Follows c s :=
  ⟨fun _ => Slot.follows_of_eq rfl rfl rfl, Card.follows_of_eq rfl rfl⟩

theorem onSlot (h : s.Follows c t) (i : Fin 4) {f : Slot → Slot} (hf : (t.slot i).Follows c (f (t.slot i))) :
    s.Follows c (t.onSlot i f) := by
  refine ⟨fun j => ?_, h.card⟩
  rw [slot_onSlot]
  split
  next hij => exact hij ▸ (h.slots i).trans hf
  · exact h.slots j

theorem onCard (h : s.Follows c t) {f : Card → Card} (hf : t.path.card.Follows c (f t.path.card)) :
    s.Follows c (t.onCard f) := ⟨h.slots, h.card.trans hf⟩

theorem notify (h : s.Follows c t) (n : Notice) : s.Follows c (t.notify n) := h.of_workload (by simp)

theorem unretain (h : s.Follows c t) (i : Fin 4) : s.Follows c (t.unretain i) := h.of_workload rfl

/-! ### Records, closing, loss -/

theorem joinTrack (h : s.Follows c t) (i : Fin 4) (b : Fin 2) (block : Nat) : s.Follows c (t.joinTrack i b block) :=
  h.onCard (Card.follows_join _ i .track block 1 (.buffer b))

theorem offerRecord (h : s.Follows c t) (r : FrameRecord) (i : Fin 4) : s.Follows c (State.offerRecord r t i) := by
  have hslot : s.Follows c (t.onSlot i (Slot.offered r)) := h.onSlot i (Slot.follows_offered _ r)
  by_cases hfills : (t.slot i).covers r.number = true ∧ (t.slot i).track = true ∧ (t.slot i).fills ≠ none
  · obtain ⟨hcovers, htrack, hsome⟩ := hfills
    obtain ⟨⟨b, block⟩, hsome⟩ := Option.ne_none_iff_exists'.mp hsome
    rw [offerRecord_of_fills hcovers htrack hsome]
    exact hslot.joinTrack i b block
  · rw [offerRecord_of_no_fill fun hcovers htrack => of_not_not fun hne => hfills ⟨hcovers, htrack, hne⟩]
    exact hslot

theorem placeBuffer (h : s.Follows c t) (i : Fin 4) (b : Fin 2) (records : List FrameRecord) :
    s.Follows c (t.placeBuffer i b records) := by
  have hslot : s.Follows c (t.onSlot i fun sl => sl.placed b records) := h.onSlot i (Slot.follows_placed _ b records)
  rcases hnext : (t.slot i).trackCursor.next with _ | block
  · rw [placeBuffer_of_none hnext]; exact hslot
  · rw [placeBuffer_of_some hnext]; exact hslot.joinTrack i b block

theorem closeSlot (h : s.Follows c t) {i : Fin 4} (hstate : (t.slot i).state = .recording) (stop : FrameNo)
    (cause : SealCause) : s.Follows c (t.closeSlot i stop cause) := by
  have hclosed : s.Follows c (t.onSlot i fun sl =>
      sl.close stop cause (decide (t.path.window.path = .idle)) t.path.window.frameCounter) :=
    h.onSlot i (Slot.follows_close hstate stop cause _ _)
  exact hclosed.of_workload rfl

theorem freeSlot (h : s.Follows c t) (i : Fin 4) : s.Follows c (t.freeSlot i) := h.onSlot i (Slot.follows_of_free rfl)

theorem sealSlot (h : s.Follows c t) (i : Fin 4) : s.Follows c (t.sealSlot i) := by
  unfold State.sealSlot
  split
  · exact h
  · exact (h.notify _).freeSlot i
  · exact h.closeSlot ‹_› _ _
  · exact h.onSlot i (Slot.follows_cutOwed _ _)

theorem loseSlot (h : s.Follows c t) (cause : LossCause) (i : Fin 4) : s.Follows c (State.loseSlot cause t i) := by
  unfold State.loseSlot
  dsimp only
  split
  · exact h
  · exact ((h.notify _).unretain i).freeSlot i

end Follows

/-- Slots and card follow through the operations of the monitor domain, and of intake, engine and window. -/
theorem follows_unsensed (c : Instr) (s : State) : Unsensed (State.Follows c s) where
  monitor h ht := h.of_workload (by simp [ht])
  time us h := h.of_workload (by simp)
  link f h := h.of_workload rfl
  reset ht := by
    refine ⟨fun i => Slot.follows_of_free ?_, Card.follows_of_quiet ?_ ?_⟩
    · have hfreed : ∀ i : Fin 4, Path.afterReset.slots[i] = .freed := fun i => Vector.getElem_replicate _
      rw [slot, ht, hfreed]; rfl
    · rw [ht]; exact List.nil_subset _
    · rw [ht]; exact nofun
  emergencySeal h := List.foldlRecOn _ _ h fun _ hu i _ => Follows.sealSlot hu i
  intake f h := h.of_workload rfl
  engine f h := h.of_workload rfl
  window f h := h.of_workload rfl
  offerRecord r i h := h.offerRecord r i
  cutOwed i counter h := h.onSlot i (Slot.follows_cutOwed _ counter)
  markOverlap h := by
    refine h.onCard ⟨fun _ e he _ => he, fun _ x hx hphase => ?_⟩
    obtain ⟨y, hy, rfl⟩ := Option.map_eq_some_iff.mp hx
    refine ⟨y, hy, ?_⟩
    split at hphase <;> exact hphase

end State
end Sys2Proof.Machine
end

section
/-! PROOFS. Slots, plain writes and attempts across a command, second layer: the operations of the card engine, of clip
data and of the handbacks. -/

namespace Sys2Proof.Machine.State

/-! ### Operations that leave queue and transaction -/

section
variable (s : State)

@[simp] theorem startCard_queue (cause : CardCause) :
    (s.startCard cause).path.card.queue = s.path.card.queue ∧
    (s.startCard cause).path.card.transaction = s.path.card.transaction := by
  simp [startCard, Card.startOver, Card.send]

@[simp] theorem startResponse_queue (r : StartResponse) :
    (s.startResponse r).path.card.queue = s.path.card.queue ∧
    (s.startResponse r).path.card.transaction = s.path.card.transaction := by
  unfold startResponse; (repeat' split) <;> simp [cardReady, Card.startOver, Card.send]

@[simp] theorem takeRead_queue (tag : Byte) (a : ReadArgs) :
    (s.takeRead tag a).path.card.queue = s.path.card.queue ∧
    (s.takeRead tag a).path.card.transaction = s.path.card.transaction := by
  unfold takeRead; (repeat' split) <;> simp

@[simp] theorem endUnit_queue :
    s.endUnit.path.card.queue = s.path.card.queue ∧ s.endUnit.path.card.transaction = s.path.card.transaction := by
  unfold endUnit endReadData
  (repeat' split) <;> simp [endRead]

end

namespace Follows
variable {c : Instr} {s t : State}

/-! ### Teardown (R90) -/

theorem teardown (h : s.Follows c t) (new : CardState) (cause : CardCause) (loss : LossCause) :
    s.Follows c (t.teardown new cause loss) := by
  have habandoned : s.Follows c (t.onCard fun card => card.abandon new) :=
    h.onCard (Card.follows_of_quiet (fun _ he => he) nofun)
  have hemptied : ∀ {u : State}, s.Follows c u → s.Follows c u.emptyQueue := fun {u} hu => by
    have hempty : s.Follows c (u.onCard fun card => { card with queue := [] }) :=
      hu.onCard ⟨fun _ => nofun, fun _ x hx hphase => ⟨x, hx, hphase⟩⟩
    exact hempty.of_workload (by simp [emptyQueue, handBack])
  have hdropped := (hemptied (habandoned.notify (.cardState new t.path.card.state cause none))).of_workload
    (u := ((t.onCard fun card => card.abandon new).notify
      (.cardState new t.path.card.state cause none)).emptyQueue.dropReads) (by simp [dropReads])
  exact List.foldlRecOn _ _ hdropped fun _ hu i _ => loseSlot hu loss i

theorem judgeFailures (h : s.Follows c t) : s.Follows c t.judgeFailures :=
  iteInduction (motive := State.Follows c s) (fun _ => h.teardown _ _ _) fun _ => h

theorem removeCard (h : s.Follows c t) : s.Follows c t.removeCard := by
  have hunknown : s.Follows c (t.onCard fun card => { card with capacity := none }) := h.of_workload rfl
  exact hunknown.teardown _ _ _

/-! ### The end of an attempt (R82, R86, R88, R94) -/

theorem handBack (h : s.Follows c t) (entries : List Entry) (result : HandbackResult) :
    s.Follows c (t.handBack entries result) := h.of_workload rfl

theorem faultOwner (h : s.Follows c t) (entries : List Entry) (owner : Option (Fin 4)) :
    s.Follows c (State.faultOwner entries t owner) := by
  unfold State.faultOwner
  split
  · exact h
  · exact h.onSlot _ (Slot.follows_of_eq rfl rfl rfl)

theorem writeFailed (h : s.Follows c t) (x : Transaction) (k : Nat) (outcome : AttemptFailure) :
    s.Follows c (t.writeFailed x k outcome) := by
  have hleft : s.Follows c (t.onCard fun card => { card with queue := card.queue.drop k }.countFailure) :=
    h.onCard (Card.follows_of_quiet (List.drop_subset k _) nofun)
  have hreleased := (hleft.of_workload (u := (t.onCard fun card =>
    { card with queue := card.queue.drop k }.countFailure).releaseEntries (t.path.card.queue.take k)) (by simp)).handBack
      (t.path.card.queue.take k) .failed
  refine judgeFailures (List.foldlRecOn _ _ ?_ fun _ hu _ _ => hu.notify _)
  exact List.foldlRecOn _ _ hreleased fun _ hu o _ => hu.faultOwner _ o

theorem readFailed (h : s.Follows c t) : s.Follows c t.readFailed := by
  have hleft : s.Follows c (t.onCard fun card =>
      { card with reads := card.reads.drop 1, readBuffer := .free }.countFailure) :=
    h.onCard (Card.follows_of_quiet (fun _ he => he) nofun)
  exact judgeFailures (hleft.of_workload (by simp))

/-- An attempt that ends leaves no transaction, or one that waits for its retry. -/
theorem endAttempt (h : s.Follows c t) (x : Transaction) (outcome : AttemptFailure) :
    s.Follows c (t.endAttempt x outcome) := by
  have hended : s.Follows c (t.onCard fun card => { card with response := none, busy := none }) := h.of_workload rfl
  unfold State.endAttempt
  dsimp only
  (repeat' split)
  · exact hended.onCard (Card.follows_of_quiet (fun _ he => he) (by rintro _ ⟨⟩; nofun))
  · exact hended.onCard (Card.follows_of_quiet (fun _ he => he) (by rintro _ ⟨⟩; nofun))
  · exact hended.writeFailed _ _ _
  · exact hended.readFailed

theorem completeEntry (h : s.Follows c t) (e : Entry) : s.Follows c (t.completeEntry e) := by
  unfold State.completeEntry
  split
  next i _ =>
    have hwritten : s.Follows c (t.onSlot i fun sl => { sl with written := satAdd sl.written e.count }) :=
      h.onSlot i (Slot.follows_of_eq rfl rfl rfl)
    exact hwritten.of_workload rfl
  · exact h

theorem writeDone (h : s.Follows c t) (k : Nat) : s.Follows c (t.writeDone k) := by
  have hleft : s.Follows c (t.onCard fun card =>
      { card with
        queue := card.queue.drop k, transaction := none, failures := 0, response := none, busy := none }) :=
    h.onCard (Card.follows_of_quiet (List.drop_subset k _) nofun)
  unfold State.writeDone
  refine List.foldlRecOn _ _ (handBack (hleft.of_workload ?_) _ _) fun _ hu e _ => hu.completeEntry e
  simp

theorem beginBusy (h : s.Follows c t) (x : Transaction) : s.Follows c (t.beginBusy x) :=
  h.onCard (Card.follows_of_quiet (fun _ he => he) (by rintro _ ⟨⟩; nofun))

theorem readBlock (h : s.Follows c t) (x : Transaction) (blocks : List Block) :
    s.Follows c (t.readBlock x blocks) := by
  unfold State.readBlock
  split
  · exact h.of_workload rfl
  · have hended : s.Follows c (t.onCard fun card =>
        { card with transaction := none, response := none, failures := 0 }) :=
      h.onCard (Card.follows_of_quiet (fun _ he => he) nofun)
    exact hended.of_workload (by simp [offerRead])

/-! ### Handbacks (R100, R106) -/

theorem takeHandback (h : s.Follows c t) (x : Handback) : s.Follows c (t.takeHandback x) := by
  have hsealed : ∀ summary failed, s.Follows c (t.sealed x.slot summary failed) := fun summary failed =>
    ((h.notify (.clipSealed x.slot summary failed)).unretain x.slot).freeSlot x.slot
  have hslot : ∀ {f : Slot → Slot}, (f (t.slot x.slot)).state = (t.slot x.slot).state →
      (f (t.slot x.slot)).video = (t.slot x.slot).video → (f (t.slot x.slot)).trackList = (t.slot x.slot).trackList →
      s.Follows c (t.onSlot x.slot f) :=
    fun hstate hvideo htrack => h.onSlot x.slot (Slot.follows_of_eq hstate hvideo htrack)
  unfold State.takeHandback
  split
  · exact hslot rfl rfl rfl
  · cases hresult : x.result <;> exact hslot rfl rfl rfl
  · split
    · exact hsealed _ _
    · exact hsealed _ _
    · exact hslot rfl rfl rfl
  · exact h

/-! ### Clip data (R67, R70) -/

theorem checkSpaceLow (h : s.Follows c t) (i : Fin 4) : s.Follows c (t.checkSpaceLow i) := by
  have hslot : s.Follows c (t.onSlot i fun sl => { sl with spaceLowArmed := false }) :=
    h.onSlot i (Slot.follows_of_eq rfl rfl rfl)
  exact iteInduction (motive := State.Follows c s) (fun _ => hslot.notify _) fun _ => h

theorem placePacket (h : s.Follows c t) (i : Fin 4) (blocks : List Block) :
    s.Follows c (t.placePacket i blocks) := by
  have hslot : s.Follows c (t.onSlot i fun sl =>
      { sl with videoCursor := ((t.slot i).lay blocks).2, accepted := satAdd sl.accepted blocks.length }) :=
    h.onSlot i (Slot.follows_of_eq rfl rfl rfl)
  exact checkSpaceLow (hslot.onCard (Card.follows_joinPieces _ i _)) i

theorem discardClip (h : s.Follows c t) (i : Fin 4) (n : Nat) (cause : DiscardCause) :
    s.Follows c (t.discardClip i n cause) := by
  have hreleased : s.Follows c (t.release n) := h.of_workload (by simp)
  exact (hreleased.onSlot i (Slot.follows_countGap _)).notify _

theorem takeClipData (h : s.Follows c t) (i : Fin 4) (n : Nat) (payload : Option (List Block)) :
    s.Follows c (t.takeClipData i n payload) := by
  unfold State.takeClipData
  (repeat' split)
  · exact h.discardClip i n _
  · exact h.discardClip i n _
  · exact h.placePacket i _

end Follows
end Sys2Proof.Machine.State
end

section
/-! PROOFS. Slots, plain writes and attempts across a command, last layer: every command, by the shape it has; and the
two statements that follow: what no command does (O20), and the disjoint extents (O17). -/

namespace Sys2Proof.Machine

/-! ### The checks of CLIP START and EXTENT ADD, and the extents in use -/

/-- A list of refusals in order passes exactly where none of them applies. -/
theorem refusal_eq_none_iff {α : Type} {p : Prop} [Decidable p] {a : α} {rest : Option α} :
    (if p then some a else rest) = none ↔ ¬p ∧ rest = none := by
  split <;> simp [*]

namespace State

/-- A clip starts exactly where none of the refusals of R61 applies. -/
theorem startRefusal_eq_none_iff (s : State) (i : Fin 4) :
    s.startRefusal i = none ↔ (s.slot i).state = .armed ∧ ((s.slot i).video ≠ [] ∧ (s.slot i).trackList ≠ []) ∧
      ((s.slot i).track = true → s.path.window.geometry ≠ none) ∧ s.path.card.state ≠ .starting ∧
      s.mon.energy.state ≠ .low ∧ s.mon.energy.state ≠ .critical := by
  simp only [startRefusal, refusal_eq_none_iff]
  simp

/-- An extent that is accepted goes to an ARMED or RECORDING slot, and overlaps neither an extent in use nor a plain
write (R58, R59). -/
theorem extentRefusal_eq_none {s : State} {i : Fin 4} {stream : Stream} {start length : Nat}
    (h : s.extentRefusal i stream start length = none) :
    ((s.slot i).state = .armed ∨ (s.slot i).state = .recording) ∧ s.overlapsExtent start length = false ∧
      s.path.card.overlapsPlain start length = false := by
  unfold extentRefusal at h
  dsimp only at h
  (repeat' split at h) <;> cases h
  next hopen _ _ _ hclash _ _ =>
    rw [Bool.or_eq_true, not_or, Bool.not_eq_true, Bool.not_eq_true] at hclash
    exact ⟨by simpa [or_iff_not_imp_left] using hopen, hclash⟩

theorem overlapsExtent_iff (s : State) (start length : Nat) :
    s.overlapsExtent start length = true ↔
      ∃ x ∈ s.heldExtents, start < x.start + x.length ∧ x.start < start + length := by
  simp only [overlapsExtent, heldExtents_eq, List.any_eq_true, List.mem_flatMap, Bool.and_eq_true, overlaps,
    decide_eq_true_eq, bne_iff_ne, ne_eq, Slot.held]
  constructor
  · rintro ⟨i, hi, hstate, x, hx, hover⟩
    exact ⟨x, ⟨i, hi, by rwa [if_neg hstate]⟩, hover⟩
  · rintro ⟨x, ⟨i, hi, hx⟩, hover⟩
    split at hx
    · cases hx
    · exact ⟨i, hi, ‹_›, x, hx, hover⟩

end State

theorem Card.overlapsPlain_iff (c : Card) (start length : Nat) :
    c.overlapsPlain start length = true ↔
      ∃ e ∈ c.queue, e.owner = .plain ∧ start < e.start + e.count ∧ e.start < start + length := by
  simp [Card.overlapsPlain, overlaps]

/-! ### The commands of the clip table and of the card -/

namespace State.Follows
variable {s t : State}

theorem arm {c : Instr} (h : s.Follows c t) (i : Fin 4) (clip : Nat) (track : Bool) (lowWater : Nat) :
    s.Follows c ((t.onSlot i fun _ => Slot.armed clip track lowWater).onCard fun card =>
      { card with handbacks := card.handbacks.filter fun x => decide (x.slot ≠ i) }) := by
  have harmed : s.Follows c (t.onSlot i fun _ => Slot.armed clip track lowWater) :=
    h.onSlot i (Slot.follows_armed clip track lowWater)
  exact harmed.of_workload rfl

theorem ends_clipArm (tag : Byte) (slot clip : Nat) (track : Option Bool) (lowWater : Option Nat) (c : Instr) :
    Ends (State.Follows c s) (execClipArm tag slot clip track lowWater s) := by
  have hl := (follows_unsensed c s).toSheltered
  refine ends_next (hl.request (.refl c s) fun u hu => ?_)
  (repeat' split)
  · exact hl.answer hu _ _
  · exact hl.answer hu _ _
  · exact hl.answer hu _ _
  · exact hl.answer (hu.arm _ _ _ _) _ _
  · exact hl.answer hu _ _

theorem ends_extentAdd {c : Instr} (hc : c.claimsBlocks = true) (tag : Byte) (slot : Nat) (stream : Option Stream)
    (start length : Nat) : Ends (State.Follows c s) (execExtentAdd tag slot stream start length s) := by
  have hl := (follows_unsensed c s).toSheltered
  refine ends_next (hl.request (.refl c s) fun u hu => ?_)
  (repeat' split)
  · exact hl.answer hu _ _
  · exact hl.answer hu _ _
  next i st _ _ _ _ =>
    refine hl.answer (hu.onSlot i ⟨fun hno => absurd (hc.symm.trans hno) nofun, fun _ hstate => ?_⟩) _ _
    cases st <;> exact hstate
  · exact hl.answer hu _ _

theorem ends_clipStart {c : Instr} (hc : c.startsClip = true) (tag : Byte) (slot : Nat) :
    Ends (State.Follows c s) (execClipStart tag slot s) := by
  have hl := (follows_unsensed c s).toSheltered
  refine ends_next (hl.request (.refl c s) fun u hu => ?_)
  (repeat' split)
  · exact hl.answer hu _ _
  · exact hl.answer hu _ _
  next i _ _ hstart =>
    obtain ⟨harmed, _⟩ := (u.startRefusal_eq_none_iff i).mp hstart
    have hheld : ((u.slot i).started u.path.window.frameCounter).held = (u.slot i).held := by
      simp [Slot.held, Slot.started, harmed]
    have hstarted : s.Follows c (u.onSlot i fun sl => sl.started u.path.window.frameCounter) :=
      hu.onSlot i ⟨fun _ => hheld ▸ .refl _, fun hno => absurd (hc.symm.trans hno) nofun⟩
    have hretained : s.Follows c
        ((u.onSlot i fun sl => sl.started u.path.window.frameCounter).retain i (u.slot i).clip) :=
      hstarted.of_workload rfl
    exact hl.answer (hretained.checkSpaceLow i) _ _

theorem ends_clipStop (tag : Byte) (slot : Nat) (last : FrameNo) (c : Instr) :
    Ends (State.Follows c s) (execClipStop tag slot last s) := by
  have hl := (follows_unsensed c s).toSheltered
  refine ends_next (hl.request (.refl c s) fun u hu => ?_)
  (repeat' split)
  · exact hl.answer hu _ _
  · exact hl.answer hu _ _
  · exact hl.answer (hu.closeSlot ‹_› _ _) _ _
  · exact hl.answer hu _ _

theorem ends_clipDrop (tag : Byte) (slot : Nat) (c : Instr) : Ends (State.Follows c s) (execClipDrop tag slot s) := by
  have hl := (follows_unsensed c s).toSheltered
  refine ends_next (hl.request (.refl c s) fun u hu => ?_)
  (repeat' split)
  · exact hl.answer hu _ _
  · exact hl.answer (hu.freeSlot _) _ _
  · exact hl.answer hu _ _

theorem ends_clipData (slot n : Nat) (payload : Option (List Block)) (c : Instr) :
    Ends (State.Follows c s) (execClipData slot n payload s) := by
  have hself : s.Follows c s := .refl c s
  refine ends_next (law_whenUp hself ?_)
  (repeat' split)
  · exact hself.of_workload (by simp)
  · exact takeClipData (hself.of_workload (by simp)) _ _ _
  · exact hself.of_workload (by simp)

theorem ends_plainWrite {c : Instr} (hc : c.claimsBlocks = true) (start n : Nat) (payload : Option (List Block)) :
    Ends (State.Follows c s) (execPlainWrite start n payload s) := by
  have hself : s.Follows c s := .refl c s
  have htaken : s.Follows c (s.takeData n payload) := hself.of_workload (by simp)
  refine ends_next (law_whenUp hself ?_)
  unfold State.takePlain
  (repeat' split)
  · exact htaken.of_workload (by simp)
  · exact htaken.of_workload (by simp)
  · exact htaken.onCard ⟨fun hno => absurd (hc.symm.trans hno) nofun, fun _ x hx hphase => ⟨x, hx, hphase⟩⟩
  · exact hself.of_workload (by simp)

theorem ends_cardRescan (tag : Byte) (c : Instr) : Ends (State.Follows c s) (execCardRescan tag s) := by
  have hl := (follows_unsensed c s).toSheltered
  have hstarted : ∀ {u : State}, s.Follows c u → s.Follows c (u.startCard .rescan) :=
    fun hu => hu.of_workload (by simp)
  refine ends_next (hl.request (.refl c s) fun u hu => ?_)
  (repeat' split)
  · exact hl.answer hu _ _
  · exact hl.answer hu _ _
  · exact hl.answer (hstarted hu) _ _
  · exact hl.answer hu _ _
  · exact hl.answer (hstarted hu) _ _

theorem ends_cardDetectFall (c : Instr) : Ends (State.Follows c s) (execCardDetectFall s) := by
  have hpin : s.Follows c (s.onPins fun p => { p with cardDetect := false }) :=
    (follows_unsensed c s).onPins (.refl c s) _
  refine ends_next (law_whenUp hpin (iteInduction (motive := State.Follows c s) (fun _ => ?_) fun _ => ?_))
  · exact hpin.of_workload rfl
  · exact hpin.removeCard

theorem ends_transactionBegin {c : Instr} (hc : c.beginsAttempt = true) :
    Ends (State.Follows c s) (execTransactionBegin s) := by
  have hself : s.Follows c s := .refl c s
  refine ends_next (law_whenUp hself ?_)
  split
  · exact hself
  · refine hself.onCard ⟨fun _ e he _ => ?_, fun hno => absurd (hc.symm.trans hno) nofun⟩
    dsimp only [Card.attempt, Card.send, Card.unwait] at he
    (repeat' split at he) <;> exact he

theorem ends_retryBegin {c : Instr} (hc : c.beginsAttempt = true) : Ends (State.Follows c s) (execRetryBegin s) := by
  have hself : s.Follows c s := .refl c s
  refine ends_next (law_whenUp hself ?_)
  split
  · exact hself
  · exact hself.onCard ⟨fun _ _ he _ => he, fun hno => absurd (hc.symm.trans hno) nofun⟩

theorem ends_cardCommandResponse (good : Bool) (c : Instr) :
    Ends (State.Follows c s) (execCardCommandResponse good s) := by
  have hself : s.Follows c s := .refl c s
  refine ends_next (law_whenUp hself ?_)
  (repeat' split)
  · exact hself
  · exact hself
  · exact hself.endAttempt _ _
  all_goals exact hself.onCard (Card.follows_of_quiet (fun _ he => he) (by rintro _ ⟨⟩; nofun))

/-- A block acknowledged goes on with the transaction in its data phase, or ends that phase (R82). -/
theorem ends_writeBlockAck (good : Bool) (c : Instr) : Ends (State.Follows c s) (execWriteBlockAck good s) := by
  have hself : s.Follows c s := .refl c s
  refine ends_next (law_whenUp hself ?_)
  split
  · exact hself
  next x _ =>
    split
    · exact hself
    next hdata =>
      have hphase : x.phase = .data := of_not_not fun hne => hdata (.inl hne)
      split
      · exact hself.beginBusy _
      · refine iteInduction (motive := State.Follows c s) (fun _ => ?_) fun _ => hself.beginBusy _
        refine hself.onCard (Card.follows_of_quiet (fun _ he => he) ?_)
        rintro _ ⟨⟩ hcommand
        exact absurd (hphase.symm.trans hcommand) nofun

theorem ends_busyEnd (c : Instr) : Ends (State.Follows c s) (execBusyEnd s) := by
  have hself : s.Follows c s := .refl c s
  refine ends_next (law_whenUp hself ?_)
  (repeat' split)
  · exact hself
  · exact hself.endAttempt _ _
  · exact hself.writeDone _
  · exact hself

theorem ends_busyTimeout (c : Instr) : Ends (State.Follows c s) (execBusyTimeout s) := by
  refine ends_next (law_whenUp (.refl c s) ((follows_unsensed c s).expiry (.refl c s) fun u hu => ?_))
  split
  · exact hu
  · exact hu.endAttempt _ _

theorem stopRead {c : Instr} (h : s.Follows c t) (x : Transaction) : s.Follows c (t.onCard fun card => card.stopRead x) := by
  refine h.onCard ?_
  unfold Card.stopRead
  split <;> exact Card.follows_of_eq rfl rfl

theorem ends_cardResponseTimeout (c : Instr) : Ends (State.Follows c s) (execCardResponseTimeout s) := by
  refine ends_next (law_whenUp (.refl c s) ((follows_unsensed c s).expiry (.refl c s) fun u hu => ?_))
  (repeat' split)
  · exact hu.of_workload rfl
  · exact hu
  · exact (hu.stopRead _).endAttempt _ _

theorem ends_readBlockReceived (block : Option Block) (c : Instr) :
    Ends (State.Follows c s) (execReadBlockReceived block s) := by
  have hself : s.Follows c s := .refl c s
  refine ends_next (law_whenUp hself ?_)
  (repeat' split)
  · exact hself
  · exact (hself.stopRead _).endAttempt _ _
  · exact hself.readBlock _ _
  · exact hself

theorem ends_bufferHandback (c : Instr) : Ends (State.Follows c s) (execBufferHandback s) := by
  have hself : s.Follows c s := .refl c s
  refine ends_next (law_whenUp hself ?_)
  split
  · exact hself
  next x rest _ =>
    have hrest : s.Follows c (s.onCard fun card => { card with handbacks := rest }) := hself.of_workload rfl
    exact hrest.takeHandback x

theorem ends_closingPad (i : Fin 4) (c : Instr) : Ends (State.Follows c s) (execClosingPad i s) := by
  have hself : s.Follows c s := .refl c s
  refine ends_next (law_whenUp hself (iteInduction (motive := State.Follows c s) (fun _ => ?_) fun _ => hself))
  have hplaced : s.Follows c (match (s.slot i).filling with
      | none => s
      | some (b, records) => s.placeBuffer i b (padRecords records)) := by
    split
    · exact hself
    · exact hself.placeBuffer _ _ _
  exact hplaced.onSlot i (Slot.follows_of_eq rfl rfl rfl)

theorem ends_summaryBuild (i : Fin 4) (c : Instr) : Ends (State.Follows c s) (execSummaryBuild i s) := by
  have hself : s.Follows c s := .refl c s
  refine ends_next (law_whenUp hself ?_)
  split
  next e _ _ _ =>
    have hbuilt : s.Follows c (s.onSlot i fun sl =>
        { sl.setBuffer 0 (.queuedSummary sl.summary) with step := .sealing }) :=
      hself.onSlot i (Slot.follows_of_eq rfl rfl rfl)
    exact hbuilt.onCard (Card.follows_join _ i .summary _ _ _)
  · exact hself

end State.Follows

/-! ### Every command -/

/-- Only EXTENT ADD and PLAIN WRITE give blocks away, only CLIP START has a slot record, and only TRANSACTION_BEGIN and
RETRY_BEGIN begin an attempt. -/
theorem exec_follows (c : Instr) (s : State) : Ends (State.Follows c s) (exec c s) := by
  have hl := State.follows_unsensed c s
  have hself : s.Follows c s := .refl c s
  by_cases hother : (c.ofMonitor || c.ofSensor) = true
  · exact (Bool.or_eq_true_iff.mp hother).elim (hl.exec_ofMonitor hself) (hl.exec_ofSensor hself)
  cases c with
  | pathResetEnd => exact ends_next (hl.expiry hself fun u hu => hu.of_workload (by dsimp only; split <;> simp))
  | clipArm tag slot clip track lowWater => exact State.Follows.ends_clipArm tag slot clip track lowWater _
  | extentAdd tag slot stream start length => exact State.Follows.ends_extentAdd rfl tag slot stream start length
  | clipStart tag slot => exact State.Follows.ends_clipStart rfl tag slot
  | clipStop tag slot last => exact State.Follows.ends_clipStop tag slot last _
  | clipDrop tag slot => exact State.Follows.ends_clipDrop tag slot _
  | clipData slot n payload => exact State.Follows.ends_clipData slot n payload _
  | plainWrite start n payload => exact State.Follows.ends_plainWrite rfl start n payload
  | cardDetectRise =>
    have hpin := hl.onPins hself fun p => { p with cardDetect := true }
    exact ends_next (law_whenUp hpin (hpin.of_workload (by split <;> rfl)))
  | cardDetectFall => exact State.Follows.ends_cardDetectFall _
  | cardDebounceExpiry => exact ends_next (law_whenUp hself (hl.expiry hself fun u hu => hu.of_workload (by simp)))
  | cardStartResponse response => exact ends_next (law_whenUp hself (hself.of_workload (by split <;> simp)))
  | startDeadlineExpiry => exact ends_next (law_whenUp hself (hl.expiry hself fun u hu => hu.teardown _ _ _))
  | cardRescan tag => exact State.Follows.ends_cardRescan tag _
  | cardSetup tag retryLimit writeTimeout readWait =>
    exact ends_next (hl.request hself fun u hu => hu.of_workload (by split <;> simp))
  | transactionBegin => exact State.Follows.ends_transactionBegin rfl
  | cardCommandResponse good => exact State.Follows.ends_cardCommandResponse good _
  | writeBlockAck good => exact State.Follows.ends_writeBlockAck good _
  | busyEnd => exact State.Follows.ends_busyEnd _
  | busyTimeout => exact State.Follows.ends_busyTimeout _
  | cardResponseTimeout => exact State.Follows.ends_cardResponseTimeout _
  | readBlockReceived block => exact State.Follows.ends_readBlockReceived block _
  | retryBegin => exact State.Follows.ends_retryBegin rfl
  | cardRead tag payload => exact ends_next (hl.request hself fun u hu => hu.of_workload (by split <;> simp))
  | readWaitTimeout =>
    exact ends_next (law_whenUp hself (hl.expiry hself fun u hu => hu.of_workload (by dsimp only; split <;> simp)))
  | bufferHandback => exact State.Follows.ends_bufferHandback _
  | closingPad slot => exact State.Follows.ends_closingPad slot _
  | summaryBuild slot => exact State.Follows.ends_summaryBuild slot _
  | upstreamUnitSent => exact ends_next (law_whenUp hself (hself.of_workload (by simp)))
  | _ => exact absurd rfl hother

end Sys2Proof.Machine
end

section
/-! PROOFS. The disjoint extents (O17), and what no command does (O20). -/

namespace Sys2Proof.Machine

/-! ### Disjoint extents (R59) -/

theorem overlaps_comm (a n b m : Nat) : overlaps a n b m = overlaps b m a n := by simp [overlaps, and_comm]

theorem mem_slotIndices (i : Fin 4) : i ∈ slotIndices := by revert i; decide

/-- One element more in the list of one index is one element more in all (up to order). -/
theorem flatMap_perm_cons {ι α : Type} {l : List ι} {i : ι} (hi : i ∈ l) (hnodup : l.Nodup) {f g : ι → List α} {a : α}
    (hone : (g i).Perm (a :: f i)) (hother : ∀ j, j ≠ i → g j = f j) : (l.flatMap g).Perm (a :: l.flatMap f) := by
  obtain ⟨before, after, rfl⟩ := List.append_of_mem hi
  obtain ⟨hbefore, hafter⟩ : (∀ j ∈ before, j ≠ i) ∧ ∀ j ∈ after, j ≠ i := by
    rw [List.nodup_middle, List.nodup_cons, List.mem_append, not_or] at hnodup
    exact ⟨fun j hj hji => hnodup.1.1 (hji ▸ hj), fun j hj hji => hnodup.1.2 (hji ▸ hj)⟩
  have hsame : ∀ m : List ι, (∀ j ∈ m, j ≠ i) → m.flatMap g = m.flatMap f := fun m hm =>
    List.flatMap_congr fun j hj => hother j (hm j hj)
  rw [List.flatMap_append, List.flatMap_append, List.flatMap_cons, List.flatMap_cons, hsame _ hbefore, hsame _ hafter]
  exact ((hone.append_right _).append_left _).trans List.perm_middle

namespace State
variable {s t : State}

/-- Extents in use of a state whose slots hold no new ones. -/
theorem Follows.heldExtents {c : Instr} (h : s.Follows c t) (hc : c.claimsBlocks = false) :
    t.heldExtents.Sublist s.heldExtents := by
  rw [heldExtents_eq, heldExtents_eq]
  induction slotIndices with
  | nil => exact .refl _
  | cons i rest ih => exact ((h.slots i).held hc).append ih

/-- The extents stay disjoint, and clear of the plain writes, where neither gains a member. -/
theorem ExtentLaw.follows {c : Instr} (hlaw : s.ExtentLaw) (hc : c.claimsBlocks = false) (h : s.Follows c t) :
    t.ExtentLaw := by
  obtain ⟨hextents, hplain⟩ := hlaw
  refine ⟨hextents.sublist (h.heldExtents hc), fun e he howner x hx => ?_⟩
  exact hplain e (h.card.plain hc e he howner) howner x ((h.heldExtents hc).subset hx)

theorem extentLaw_sheltered : Sheltered State.ExtentLaw where
  monitor h ht := h.follows (c := .powerOnReset) rfl ((follows_unsensed _ _).monitor (.refl _ _) ht)
  time us h := h.follows (c := .powerOnReset) rfl ((follows_unsensed _ _).time us (.refl _ _))
  link f h := h.follows (c := .powerOnReset) rfl ((follows_unsensed _ _).link f (.refl _ _))
  reset {t} ht := by
    have hempty : State.ExtentLaw State.reset := ⟨List.Pairwise.nil, nofun⟩
    exact hempty.follows (c := .powerOnReset) rfl ((follows_unsensed _ _).reset ht)
  emergencySeal h := h.follows (c := .powerOnReset) rfl ((follows_unsensed _ _).emergencySeal (.refl _ _))

/-- An extent that joins the list of a slot in use is one more of the extents in use. -/
theorem heldExtents_addExtent (s : State) {i : Fin 4} (h : (s.slot i).state ≠ .free) (stream : Stream) (e : Extent) :
    (s.onSlot i fun sl => sl.addExtent stream e).heldExtents.Perm (e :: s.heldExtents) := by
  have hone : ((s.slot i).addExtent stream e).held.Perm (e :: (s.slot i).held) := by
    cases stream with
    | video =>
      have hheld : ((s.slot i).addExtent .video e).held = (s.slot i).video ++ [e] ++ (s.slot i).trackList := if_neg h
      rw [hheld, Slot.held, if_neg h, List.append_assoc]
      exact List.perm_middle
    | track =>
      have hheld : ((s.slot i).addExtent .track e).held = (s.slot i).video ++ ((s.slot i).trackList ++ [e]) := if_neg h
      rw [hheld, Slot.held, if_neg h, ← List.append_assoc]
      exact List.perm_append_singleton e _
  rw [heldExtents_eq, heldExtents_eq]
  refine flatMap_perm_cons (mem_slotIndices i) (by decide) ?_ fun j hj => ?_
  · rwa [onSlot_slot_self]
  · rw [onSlot_slot_of_ne _ _ _ hj]

/-- An accepted extent overlaps no extent in use and no plain write, so that all stay disjoint (R58, R59). -/
theorem ExtentLaw.addExtent (h : s.ExtentLaw) {i : Fin 4} {stream : Stream} {start length : Nat}
    (haccepted : s.extentRefusal i stream start length = none) :
    (s.onSlot i fun sl => sl.addExtent stream ⟨start, length⟩).ExtentLaw := by
  obtain ⟨hextents, hplain⟩ := h
  obtain ⟨hopen, hclear, hclearPlain⟩ := extentRefusal_eq_none haccepted
  have hstate : (s.slot i).state ≠ .free := by rcases hopen with h | h <;> rw [h] <;> nofun
  have hperm := s.heldExtents_addExtent hstate stream ⟨start, length⟩
  have hnew : ∀ x ∈ s.heldExtents, overlaps start length x.start x.length = false := fun x hx =>
    decide_eq_false fun hover => by
      rw [(s.overlapsExtent_iff start length).mpr ⟨x, hx, hover⟩] at hclear; cases hclear
  refine ⟨(hperm.pairwise_iff fun {a b} hab => ?_).mpr (List.pairwise_cons.mpr ⟨hnew, hextents⟩), ?_⟩
  · rwa [overlaps_comm]
  · intro e he howner x hx
    rcases List.mem_cons.mp (hperm.mem_iff.mp hx) with rfl | hold
    · rw [overlaps_comm]
      refine decide_eq_false fun hover => ?_
      rw [(s.path.card.overlapsPlain_iff start length).mpr ⟨e, he, howner, hover⟩] at hclearPlain
      cases hclearPlain
    · exact hplain e he howner x hold

/-- A plain write is admitted only clear of the extents in use (R59, R69). -/
theorem ExtentLaw.takePlain (h : s.ExtentLaw) (start n : Nat) (payload : Option (List Block)) :
    (s.takePlain start n payload).ExtentLaw := by
  have hdiscarded : ∀ cause, (s.discardPlain start n cause).ExtentLaw := fun cause =>
    extentLaw_sheltered.notify (extentLaw_sheltered.release h n) _
  unfold State.takePlain
  (repeat' split)
  · exact hdiscarded _
  · exact hdiscarded _
  next hadmitted =>
    simp only [plainRefusal, refusal_eq_none_iff] at hadmitted
    obtain ⟨_, _, hclear, _⟩ := hadmitted
    obtain ⟨hextents, hplain⟩ := h
    refine ⟨hextents, fun e he howner x hx => ?_⟩
    rcases List.mem_append.mp he with hold | hnew
    · exact hplain e hold howner x hx
    · rw [List.mem_singleton.mp hnew]
      exact decide_eq_false fun hover => hclear ((s.overlapsExtent_iff start n).mpr ⟨x, hx, hover⟩)

end State

/-- The two commands that give blocks away keep the extents disjoint by their checks; no other command gives any. -/
theorem exec_extentLaw (c : Instr) {s : State} (h : s.ExtentLaw) : Ends State.ExtentLaw (exec c s) := by
  have hl := State.extentLaw_sheltered
  rcases hc : c.claimsBlocks with _ | _
  · exact fun t ht => h.follows hc (exec_follows c s t ht)
  cases c with
  | extentAdd tag slot stream start length =>
    refine ends_next (hl.request h fun u hu => ?_)
    (repeat' split)
    · exact hl.answer hu _ _
    · exact hl.answer hu _ _
    · exact hl.answer (hu.addExtent ‹_›) _ _
    · exact hl.answer hu _ _
  | plainWrite start n payload =>
    have htaken : (s.takeData n payload).ExtentLaw :=
      h.follows (c := .powerOnReset) rfl ((State.Follows.refl _ s).of_workload (by simp))
    refine ends_next (law_whenUp h (iteInduction (motive := State.ExtentLaw) (fun _ => ?_) fun _ => ?_))
    · exact htaken.takePlain _ _ _
    · exact hl.notify (hl.link _ h) _
  | _ => cases hc

/-- Settles O17: only EXTENT ADD and PLAIN WRITE give blocks away (exec_follows), and each checks them against the extents
and the plain writes that stand. -/
theorem extentLawIsKept : Obligations.ExtentLawIsKept :=
  kept_of_exec (fun c _ t h ht => exec_extentLaw c h t ht) (fun _ _ h => h)
    fun _ h => State.extentLaw_sheltered.time 1 h

/-! ### Recording, and attempts on the card (R62, R84, R87, R92) -/

/-- CLIP START in LOW or CRITICAL leaves no slot RECORDING that was not (R61). -/
theorem clipStart_of_recording {s t : State} {tag : Byte} {slot : Nat} {i : Fin 4}
    (h : exec (.clipStart tag slot) s = .next t) (hafter : (t.slot i).state = .recording)
    (hbefore : (s.slot i).state ≠ .recording) : s.mon.energy.state ≠ .low ∧ s.mon.energy.state ≠ .critical := by
  have hmoved : t.path.slots ≠ s.path.slots := fun hslots =>
    absurd (by simpa only [State.slot, hslots] using hafter) hbefore
  have hrequest : execClipStart tag slot s = .next t := h
  rw [execClipStart, Host.Outcome.next.injEq] at hrequest
  rcases s.request_cases tag .control _ with ⟨_, _, heq⟩ | ⟨_, _, heq⟩ | ⟨_, heq⟩ <;> rw [heq] at hrequest
  · split at hrequest
    · exact absurd (by simp [← hrequest]) hmoved
    · split at hrequest
      · exact absurd (by simp [← hrequest]) hmoved
      next hstart =>
        obtain ⟨_, _, _, _, henergy⟩ := (State.startRefusal_eq_none_iff _ _).mp hstart
        exact henergy
  · exact absurd (by simp [← hrequest]) hmoved
  · exact absurd (by rw [hrequest]) hmoved

/-- A READ is chosen only with no entry of the queue at or before its fence (R92). -/
theorem Card.choose_read {c : Card} {x : Transaction} (h : c.choose = some x) (hread : x.work = .read) :
    ∃ r rest, c.reads = r :: rest ∧ ∀ e ∈ c.queue, ∀ f, r.fence = some f → 2147483648 ≤ (f - e.seq).toNat := by
  unfold Card.choose at h
  dsimp only at h
  split at h
  next _ _ r rest hreads _ =>
    split at h
    next heligible =>
      refine ⟨r, rest, hreads, fun e he f hf => ?_⟩
      simp only [Card.eligible, hf, atOrBefore, List.all_eq_true, Bool.not_eq_true', decide_eq_false_iff_not,
        Nat.not_lt] at heligible
      exact heligible e he
    · split at h
      · cases h
      · cases h; cases hread
  · split at h
    · cases h
    · cases h; cases hread

/-- TRANSACTION_BEGIN begins an attempt only with the shock hold not running, and a READ only where it is eligible (R84,
R92). -/
theorem transactionBegin_of_command {s t : State} {x : Transaction} (h : exec .transactionBegin s = .next t)
    (hx : t.path.card.transaction = some x) (hnew : s.path.card.transaction ≠ some x) :
    s.shockHeld = false ∧ (x.work = .read → ∃ r rest, s.path.card.reads = r :: rest ∧
      ∀ e ∈ s.path.card.queue, ∀ f, r.fence = some f → 2147483648 ≤ (f - e.seq).toNat) := by
  have hstep : execTransactionBegin s = .next t := h
  rw [execTransactionBegin, Host.Outcome.next.injEq] at hstep
  rcases s.whenUp_cases _ with ⟨_, heq⟩ | ⟨_, heq⟩ <;> rw [heq] at hstep
  · split at hstep
    · exact absurd (hstep ▸ hx) hnew
    next y hdue =>
      unfold State.transactionDue at hdue
      split at hdue
      next hfree =>
        obtain ⟨_, _, hheld⟩ := hfree
        refine ⟨hheld, fun hread => Card.choose_read hdue ?_⟩
        have hwork : x.work = y.work := by
          rw [← hstep] at hx
          dsimp only [State.onCard, Card.attempt, Card.send, Card.unwait] at hx
          (repeat' split at hx) <;> cases hx <;> rfl
        exact hwork ▸ hread
      · cases hdue
  · exact absurd (hstep ▸ hx) hnew

/-- RETRY_BEGIN begins an attempt only of the transaction there is, with the shock hold not running (R87). -/
theorem retryBegin_of_command {s t : State} {x : Transaction} (h : exec .retryBegin s = .next t)
    (hx : t.path.card.transaction = some x) (hnew : s.path.card.transaction ≠ some x) :
    s.shockHeld = false ∧ s.path.card.transaction ≠ none := by
  have hstep : execRetryBegin s = .next t := h
  rw [execRetryBegin, Host.Outcome.next.injEq] at hstep
  rcases s.whenUp_cases _ with ⟨_, heq⟩ | ⟨_, heq⟩ <;> rw [heq] at hstep
  · split at hstep
    · exact absurd (hstep ▸ hx) hnew
    next y hdue =>
      unfold State.retryDue at hdue
      (repeat' split at hdue)
      next hsome hwaits => exact ⟨hwaits.2, by rw [hsome]; nofun⟩
      · cases hdue
      · cases hdue
  · exact absurd (hstep ▸ hx) hnew

/-- Settles O20: exec_follows names the commands that may have a slot record or begin an attempt, and each of these by its
own checks. -/
theorem whatNoCommandDoes : Obligations.WhatNoCommandDoes := by
  intro c s t h
  have hfollows := exec_follows c s t h
  refine ⟨fun i hafter hbefore => ?_, fun x hx hcommand hno => ?_⟩
  · rcases hc : c.startsClip with _ | _
    · exact absurd ((hfollows.slots i).recording hc hafter) hbefore
    cases c with
    | clipStart tag slot => exact ⟨⟨tag, slot, rfl⟩, clipStart_of_recording h hafter hbefore⟩
    | _ => cases hc
  · have hnew : s.path.card.transaction ≠ some x := fun hold => hno x hold hcommand
    rcases hc : c.beginsAttempt with _ | _
    · obtain ⟨y, hy, hphase⟩ := hfollows.card.attempt hc x hx hcommand
      exact absurd hphase (hno y hy)
    cases c with
    | transactionBegin =>
      obtain ⟨hheld, hread⟩ := transactionBegin_of_command h hx hnew
      exact ⟨hheld, fun hwork _ => hread hwork⟩
    | retryBegin =>
      obtain ⟨hheld, hbusy⟩ := retryBegin_of_command h hx hnew
      exact ⟨hheld, fun _ hnone => absurd hnone hbusy⟩
    | _ => cases hc

end Sys2Proof.Machine
end

section
/-! PROOFS. The requests of the clip table (04), first layer: a request that is answered at once, and the notices that it
offers before its answer. -/

namespace Sys2Proof.Machine

theorem slotIndex_of_le {n : Nat} (h : 4 ≤ n) : slotIndex n = none := dif_neg (Nat.not_lt.mpr h)

namespace State

/-! ### One request more outstanding leaves everything else -/

@[simp] theorem owing_slot (s : State) (i : Fin 4) : s.owing.slot i = s.slot i := rfl

/-- The arbiter's choice does not read the number of requests outstanding (R165). -/
theorem choose_outstanding (l : Link) (b : ReadBuffer) (n : Nat) :
    Link.choose { l with outstanding := n } b = { l.choose b with outstanding := n } := by
  have hcell : ∀ c, Link.beginCell { l with outstanding := n } b c = { l.beginCell b c with outstanding := n } := by
    intro c
    cases c with
    | notice => rcases h : l.notices with _ | ⟨x, rest⟩ <;> simp [Link.beginCell, Link.beginNotice, h]
    | reply => rfl
    | readData => rfl
    | credit => rfl
  have hdue : Link.cellDue { l with outstanding := n } b = l.cellDue b := rfl
  unfold Link.choose
  simp only [hdue, hcell]
  (repeat' split) <;> rfl

theorem owing_chooseUnit (s : State) : s.owing.chooseUnit = s.chooseUnit.owing := by
  obtain ⟨houtstanding, _⟩ := s.chooseUnit_link
  have hlink := choose_outstanding s.path.link s.path.card.readBuffer (s.path.link.outstanding + 1)
  have howing : s.chooseUnit.owing =
      { s.chooseUnit with path.link.outstanding := s.path.link.outstanding + 1 } := by rw [owing, houtstanding]
  rw [howing]
  exact congrArg (fun l => { s with path.link := l }) hlink

/-- A notice offered between a request's taking and its answer is the notice offered before. -/
theorem owing_notify (s : State) (n : Notice) : s.owing.notify n = (s.notify n).owing := by
  have hoffer : (s.owing.onLink fun l => l.offer n) = (s.onLink fun l => l.offer n).owing := by
    rcases s.path.link.offer_cases n with ⟨hroom, _⟩ | ⟨hfull, _⟩
    · simp [owing, onLink, Link.offer, hroom]
    · simp [owing, onLink, Link.offer, Nat.not_lt.mpr hfull]
  rcases s.notify_cases n with ⟨hup, heq⟩ | ⟨hdown, heq⟩
  · rw [heq, ← owing_chooseUnit, ← hoffer]
    exact if_pos hup
  · rw [heq]
    exact if_neg (Bool.eq_false_iff.mp hdown)

theorem notify_outstanding (s : State) (n : Notice) :
    (s.notify n).path.link.outstanding = s.path.link.outstanding := by
  rcases s.notify_cases n with ⟨_, heq⟩ | ⟨_, heq⟩ <;> rw [heq]
  obtain ⟨hchosen, _⟩ := (s.onLink fun l => l.offer n).chooseUnit_link
  rw [hchosen]
  rcases s.path.link.offer_cases n with ⟨_, hoffer⟩ | ⟨_, hoffer⟩ <;> simp [hoffer]

/-! ### A request answered at once -/

/-- A request that is taken, moves the state as said, and is answered. -/
theorem exec_of_answer {s u : State} (htakes : s.Takes) {c : Instr} {tag : Byte} {code : ReplyCode}
    {body : State → State} (hexec : exec c s = .next (s.request tag .control body))
    (hbody : body s.owing = u.owing.answer tag code) (hup : u.pathUp = true) :
    exec c s = .next (u.replied tag code .none) := by
  rw [hexec, request_of_takes htakes, hbody, owing_answer hup]

/-- A request that is refused. -/
theorem exec_of_refusal {s : State} (htakes : s.Takes) {c : Instr} {tag : Byte} {code : ReplyCode}
    {body : State → State} (hexec : exec c s = .next (s.request tag .control body))
    (hbody : body s.owing = s.owing.answer tag code) : exec c s = .next (s.replied tag code .none) :=
  exec_of_answer htakes hexec hbody htakes.1

end State
end Sys2Proof.Machine
end

section
/-! PROOFS. CLIP DROP and the emergency seal of one slot (R56, R64, R108). -/

namespace Sys2Proof.Machine
namespace State
variable {s : State} {i : Fin 4}

theorem sealSlot_of_free (h : (s.slot i).state = .free) : s.sealSlot i = s := by rw [sealSlot, h]

theorem sealSlot_of_armed (h : (s.slot i).state = .armed) :
    s.sealSlot i = (s.notify (.clipDropped i (s.slot i).clip .power)).freeSlot i := by rw [sealSlot, h]

theorem sealSlot_of_recording (h : (s.slot i).state = .recording) :
    s.sealSlot i = s.closeSlot i s.path.window.frameCounter .power := by rw [sealSlot, h]

theorem Takes.notify (h : s.Takes) (n : Notice) : (s.notify n).Takes := by
  obtain ⟨_, _, _, _, _, _, _, _, hup, _⟩ := s.notify_frame n
  exact ⟨hup.trans h.1, (s.notify_outstanding n).symm ▸ h.2⟩

end State

section
variable {s : State} (htakes : s.Takes) (tag : Byte)
include htakes

theorem exec_clipDrop_badArg {slot : Nat} (h : 4 ≤ slot) :
    exec (.clipDrop tag slot) s = .next (s.replied tag .badArg .none) :=
  State.exec_of_refusal htakes rfl (by rw [slotIndex_of_le h])

theorem exec_clipDrop_badState {i : Fin 4} (h : (s.slot i).state ≠ .armed) :
    exec (.clipDrop tag i) s = .next (s.replied tag .badState .none) :=
  State.exec_of_refusal htakes rfl (by simp [h])

theorem exec_clipDrop_taken {i : Fin 4} (h : (s.slot i).state = .armed) :
    exec (.clipDrop tag i) s = .next ((s.freeSlot i).replied tag .ok .none) :=
  State.exec_of_answer htakes rfl (by rw [slotIndex_val]; exact if_pos h) htakes.1

end

/-- Settles O38: the request by the state of the slot, and the seal before or after it by the state it finds. -/
theorem clipDropFreesAnArmedSlot : Obligations.ClipDropFreesAnArmedSlot := by
  intro s tag htakes freed
  have hfreed : Slot.freed = freed := rfl
  refine ⟨fun slot h => exec_clipDrop_badArg htakes tag h, fun i =>
    ⟨fun h => exec_clipDrop_badState htakes tag h, fun h => ?_⟩⟩
  intro u
  have hseal := State.sealSlot_of_armed h
  have hsealed : (s.sealSlot i).slot i = freed := by rw [hseal, State.freeSlot, State.onSlot_slot_self, hfreed]
  have htakes' : (s.sealSlot i).Takes := by rw [hseal]; exact htakes.notify _
  refine ⟨exec_clipDrop_taken htakes tag h, State.sealSlot_of_free ?_, hseal, hsealed,
    exec_clipDrop_badState htakes' tag ?_⟩
  · have hslot : u.slot i = freed := (s.freeSlot i).slot i |> fun _ => s.onSlot_slot_self i fun _ => freed
    rw [hslot]
  · rw [hsealed]; nofun

end Sys2Proof.Machine
end

section
/-! PROOFS. CLIP ARM and CLIP START (R57, R61, R62, R68). -/

namespace Sys2Proof.Machine
namespace State

theorem clipInUse_iff (s : State) (i : Fin 4) (clip : Nat) :
    s.clipInUse i clip = true ↔ ∃ j, j ≠ i ∧ (s.slot j).state ≠ .free ∧ (s.slot j).clip = clip := by
  simp [clipInUse, mem_slotIndices]

/-- The check of SPACE LOW: the mark cleared and the notice offered, where the mark is set and the space is below the
low-water (R68). -/
theorem checkSpaceLow_eq (s : State) (i : Fin 4) {low : Bool}
    (hlow : ((s.slot i).spaceLowArmed && decide ((s.slot i).remaining < (s.slot i).lowWater)) = low) :
    s.checkSpaceLow i =
      if low then (s.onSlot i fun sl => { sl with spaceLowArmed := sl.spaceLowArmed && !low }).notify
        (.spaceLow i (s.slot i).clip (s.slot i).remaining (s.slot i).lowWater)
      else s.onSlot i fun sl => { sl with spaceLowArmed := sl.spaceLowArmed && !low } := by
  unfold checkSpaceLow
  dsimp only
  rw [hlow]
  cases low with
  | true => simp
  | false => simpa using (s.onSlot_self i rfl).symm

/-- A clip that starts, before the check of SPACE LOW: the slot started and its entry retained (R62). -/
def begun (s : State) (i : Fin 4) : State :=
  (s.onSlot i fun sl => sl.started s.path.window.frameCounter).retain i (s.slot i).clip

theorem begun_slot (s : State) (i : Fin 4) : (s.begun i).slot i = (s.slot i).started s.path.window.frameCounter :=
  s.onSlot_slot_self i fun sl => sl.started s.path.window.frameCounter

theorem begun_onSlot (s : State) (i : Fin 4) (f : Slot → Slot) :
    (s.begun i).onSlot i f =
      (s.onSlot i fun sl => f (sl.started s.path.window.frameCounter)).retain i (s.slot i).clip := by
  rw [← s.onSlot_onSlot i (fun sl => sl.started s.path.window.frameCounter) f]; rfl

/-! ### The refusals of CLIP START, in the order of R61 -/

section
variable {s : State} {i : Fin 4}

theorem startRefusal_noSpace (harmed : (s.slot i).state = .armed)
    (hempty : (s.slot i).video = [] ∨ (s.slot i).trackList = []) : s.startRefusal i = some .noSpace := by
  simp [startRefusal, harmed, hempty]

theorem startRefusal_badState
    (hready : (s.slot i).state = .armed ∧ (s.slot i).video ≠ [] ∧ (s.slot i).trackList ≠ [])
    (hnot : ¬((s.slot i).track = false ∨ s.path.window.geometry ≠ none) ∨ s.path.card.state = .starting) :
    s.startRefusal i = some .badState := by
  obtain ⟨harmed, hvideo, htrack⟩ := hready
  rcases hnot with hunset | hstarting
  · rw [not_or, Bool.not_eq_false, not_not] at hunset
    simp [startRefusal, harmed, hvideo, htrack, hunset]
  · simp [startRefusal, harmed, hvideo, htrack, hstarting]

theorem startRefusal_lowEnergy
    (hready : (s.slot i).state = .armed ∧ (s.slot i).video ≠ [] ∧ (s.slot i).trackList ≠ [])
    (hset : (s.slot i).track = false ∨ s.path.window.geometry ≠ none) (hcard : s.path.card.state ≠ .starting)
    (hlow : s.mon.energy.state = .low ∨ s.mon.energy.state = .critical) : s.startRefusal i = some .lowEnergy := by
  obtain ⟨harmed, hvideo, htrack⟩ := hready
  have hset' : ¬((s.slot i).track = true ∧ s.path.window.geometry = none) := fun ⟨hon, hnone⟩ =>
    hset.elim (fun hoff => by rw [hon] at hoff; cases hoff) fun hsome => hsome hnone
  simp [startRefusal, harmed, hvideo, htrack, hset', hcard, hlow]

end

theorem owing_onSlot (s : State) (i : Fin 4) (f : Slot → Slot) : s.owing.onSlot i f = (s.onSlot i f).owing := rfl

theorem owing_checkSpaceLow (s : State) (i : Fin 4) : s.owing.checkSpaceLow i = (s.checkSpaceLow i).owing := by
  unfold checkSpaceLow
  dsimp only [owing_slot]
  split
  · rw [owing_onSlot, owing_notify]
  · rfl

end State

section
variable {s : State} (htakes : s.Takes) (tag : Byte)
include htakes

/-! ### CLIP ARM -/

theorem exec_clipArm_badArg {slot clip : Nat} {track : Option Bool} {lowWater : Option Nat}
    (h : 4 ≤ slot ∨ clip = 0 ∨ 65535 < clip ∨ 65535 < lowWater.getD 256 ∨ track = none) :
    exec (.clipArm tag slot clip track lowWater) s = .next (s.replied tag .badArg .none) := by
  refine State.exec_of_refusal htakes rfl ?_
  rcases slotIndex_cases slot with ⟨i, hi, hslot⟩ | ⟨_, hslot⟩
  · rcases track with _ | on
    · rw [hslot]
    · have hargs : clip = 0 ∨ 65535 < clip ∨ 65535 < lowWater.getD 256 := by
        simpa [show ¬4 ≤ slot from hi ▸ Nat.not_le.mpr i.isLt] using h
      have hrange : (!(decide (1 ≤ clip ∧ clip ≤ 65535) && decide (lowWater.getD 256 ≤ 65535))) = true := by
        simp; omega
      rw [hslot]
      exact if_pos hrange
  · rw [hslot]

section
variable {clip : Nat} {lowWater : Option Nat} (hlow : 1 ≤ clip) (hhigh : clip ≤ 65535)
  (hwater : lowWater.getD 256 ≤ 65535) (i : Fin 4) (on : Bool)
include hlow hhigh hwater

theorem exec_clipArm_badState (h : (s.slot i).state ≠ .free) :
    exec (.clipArm tag i clip (some on) lowWater) s = .next (s.replied tag .badState .none) := by
  refine State.exec_of_refusal htakes rfl ?_
  simp [hlow, hhigh, hwater, h]

theorem exec_clipArm_inUse (h : (s.slot i).state = .free) (huse : s.clipInUse i clip = true) :
    exec (.clipArm tag i clip (some on) lowWater) s = .next (s.replied tag .badArg .none) := by
  have huse' : s.owing.clipInUse i clip = true := huse
  refine State.exec_of_refusal htakes rfl ?_
  simp [hlow, hhigh, hwater, h, huse']

theorem exec_clipArm_taken (h : (s.slot i).state = .free) (huse : s.clipInUse i clip = false) :
    exec (.clipArm tag i clip (some on) lowWater) s = .next
      (((s.onSlot i fun _ => Slot.armed clip on (lowWater.getD 256)).onCard fun c =>
        { c with handbacks := c.handbacks.filter fun x => decide (x.slot ≠ i) }).replied tag .ok .none) := by
  have huse' : s.owing.clipInUse i clip = false := huse
  refine State.exec_of_answer htakes rfl ?_ htakes.1
  simp only [slotIndex_val, State.owing_slot, hlow, hhigh, hwater, h, huse']
  rfl

end

/-! ### CLIP START -/

theorem exec_clipStart_badArg {slot : Nat} (h : 4 ≤ slot) :
    exec (.clipStart tag slot) s = .next (s.replied tag .badArg .none) :=
  State.exec_of_refusal htakes rfl (by rw [slotIndex_of_le h])

theorem exec_clipStart_refused {i : Fin 4} {code : ReplyCode} (h : s.startRefusal i = some code) :
    exec (.clipStart tag i) s = .next (s.replied tag code .none) := by
  have h' : s.owing.startRefusal i = some code := h
  exact State.exec_of_refusal htakes rfl (by simp [h'])

/-- A clip that starts: the slot started, its entry retained, and then SPACE LOW (R62, R68). -/
theorem exec_clipStart_taken {i : Fin 4} (h : s.startRefusal i = none) :
    exec (.clipStart tag i) s = .next
      (((s.begun i).checkSpaceLow i).replied tag .ok .none) := by
  have h' : s.owing.startRefusal i = none := h
  obtain ⟨_, _, _, _, _, _, _, hup, _⟩ := (s.begun i).checkSpaceLow_frame i
  refine State.exec_of_answer htakes rfl ?_ (hup.trans htakes.1)
  rw [← (s.begun i).owing_checkSpaceLow, slotIndex_val]
  simp only [h']
  rfl

end

/-- Settles O39: each request by its refusals in order, and what it takes; SPACE LOW by State.checkSpaceLow_eq. -/
theorem clipArmAndClipStart : Obligations.ClipArmAndClipStart := by
  refine ⟨fun s tag slot clip track lowWater htakes => ⟨exec_clipArm_badArg htakes tag, ?_⟩,
    fun s tag htakes => ⟨fun slot h => exec_clipStart_badArg htakes tag h, fun i => ?_⟩⟩
  · rintro i on rfl rfl hlow hhigh hwater
    refine ⟨exec_clipArm_badState htakes tag hlow hhigh hwater i on, fun hfree => ⟨fun huse => ?_, fun hnone => ?_⟩⟩
    · exact exec_clipArm_inUse htakes tag hlow hhigh hwater i on hfree ((s.clipInUse_iff i clip).mpr huse)
    · refine exec_clipArm_taken htakes tag hlow hhigh hwater i on hfree (Bool.eq_false_iff.mpr fun huse => ?_)
      obtain ⟨j, hj, hstate, hclip⟩ := (s.clipInUse_iff i clip).mp huse
      exact hnone j hj hstate hclip
  · intro sl ready set energy
    refine ⟨fun hstate => exec_clipStart_refused htakes tag (if_pos hstate), fun harmed hempty => ?_,
      fun hready hnot => ?_, fun hready hset hcard hlow => ?_, fun hready hset hcard hnotLow hnotCritical => ?_⟩
    · exact exec_clipStart_refused htakes tag (State.startRefusal_noSpace harmed hempty)
    · exact exec_clipStart_refused htakes tag (State.startRefusal_badState hready hnot)
    · exact exec_clipStart_refused htakes tag (State.startRefusal_lowEnergy hready hset hcard hlow)
    · intro counter low u
      have hnone : s.startRefusal i = none := (s.startRefusal_eq_none_iff i).mpr
        ⟨hready.1, hready.2, fun hon => hset.resolve_left (hon ▸ nofun), hcard, hnotLow, hnotCritical⟩
      have hslot := s.begun_slot i
      have hmarked : (s.begun i).onSlot i (fun sl => { sl with spaceLowArmed := sl.spaceLowArmed && !low }) = u :=
        s.begun_onSlot i _
      rw [exec_clipStart_taken htakes tag hnone, (s.begun i).checkSpaceLow_eq i (low := low) (hslot ▸ rfl), hmarked,
        hslot]
      rfl

end Sys2Proof.Machine
end

section
/-! PROOFS. CLIP STOP, and the entry of a slot to CLOSING (R63, R101 to R103, R108). -/

namespace Sys2Proof.Machine
namespace Slot
variable {s : Slot} {start next stop : FrameNo}

theorem raiseStop_of_stop (hstart : s.startFrame = some start) (hstop : s.stopFrame = some stop)
    (hnext : s.nextTrack = some next) :
    s.raiseStop =
      { s with stopFrame := some (if (stop - start).toNat < (next - start).toNat then next else stop) } := by
  by_cases hbefore : (stop - start).toNat < (next - start).toNat
  · simp only [raiseStop, hstart, hstop, hnext, frameOffset, if_pos hbefore]
  · have hleft : s.raiseStop = s := by simp only [raiseStop, hstart, hstop, hnext, frameOffset, if_neg hbefore]
    rw [if_neg hbefore, ← hstop, hleft]

theorem close_of_track_off (h : s.track = false) (stop : FrameNo) (cause : SealCause) (idle : Bool)
    (counter : FrameNo) : s.close stop cause idle counter =
      { s with state := .closing, stopFrame := some stop, cause := some cause, step := .pad } := by
  simp [close, h]

/-- With track on, the stop frame raised to the records taken, then cut to the frames begun while the pixel path is IDLE,
and step 1 judged (R101 to R103). -/
theorem close_of_track (h : s.track = true) (hstart : s.startFrame = some start) (hnext : s.nextTrack = some next)
    {raised cut counter : FrameNo} {idle : Bool}
    (hraised : (if (stop - start).toNat < (next - start).toNat then next else stop) = raised)
    (hcut : (if idle = true ∧ (counter - start).toNat < (raised - start).toNat then counter else raised) = cut)
    (cause : SealCause) : s.close stop cause idle counter =
      { s with
        state := .closing, stopFrame := some cut, cause := some cause, step := if next = cut then .pad else .owed } := by
  have hraise : raiseStop { s with state := .closing, stopFrame := some stop, cause := some cause } =
      { s with state := .closing, stopFrame := some raised, cause := some cause } := by
    rw [raiseStop_of_stop (s := { s with state := .closing, stopFrame := some stop, cause := some cause }) hstart rfl
      hnext, hraised]
  have hcutStop : (if idle then
        cutStop { s with state := .closing, stopFrame := some raised, cause := some cause } counter
      else { s with state := .closing, stopFrame := some raised, cause := some cause }) =
      { s with state := .closing, stopFrame := some cut, cause := some cause } := by
    cases idle with
    | true =>
      rw [if_pos rfl, cutStop_of_stop (s := { s with state := .closing, stopFrame := some raised, cause := some cause })
        hstart rfl, ← hcut]
      simp
    | false => rw [if_neg nofun, ← hcut]; simp
  unfold close
  dsimp only
  rw [if_pos h, hraise, hcutStop, judgeOwed_eq]
  simp [hnext]

end Slot

section
variable {s : State} (htakes : s.Takes) (tag : Byte) (last : FrameNo)
include htakes

theorem exec_clipStop_badArg {slot : Nat} (h : 4 ≤ slot) :
    exec (.clipStop tag slot last) s = .next (s.replied tag .badArg .none) :=
  State.exec_of_refusal htakes rfl (by rw [slotIndex_of_le h])

theorem exec_clipStop_badState {i : Fin 4} (h : (s.slot i).state ≠ .recording) :
    exec (.clipStop tag i last) s = .next (s.replied tag .badState .none) := by
  refine State.exec_of_refusal htakes rfl ?_
  simp only [slotIndex_val]
  split
  · exact absurd ‹_› h
  · rfl

section
variable {i : Fin 4} {start : FrameNo} (hstate : (s.slot i).state = .recording)
  (hstart : (s.slot i).startFrame = some start)
include hstate hstart

/-- A last frame too far ahead of the frames begun (R63). -/
theorem exec_clipStop_tooFar
    (hfar : (s.path.window.frameCounter - start).toNat + 1024 < (last + 1 - start).toNat) :
    exec (.clipStop tag i last) s = .next (s.replied tag .badArg .none) := by
  refine State.exec_of_refusal htakes rfl ?_
  simp only [slotIndex_val, State.owing_slot, hstate, hstart]
  exact if_pos hfar

theorem exec_clipStop_taken
    (hnear : (last + 1 - start).toNat ≤ (s.path.window.frameCounter - start).toNat + 1024) :
    exec (.clipStop tag i last) s = .next ((s.closeSlot i (last + 1) .stop).replied tag .ok .none) := by
  refine State.exec_of_answer htakes rfl ?_ htakes.1
  simp only [slotIndex_val, State.owing_slot, hstate, hstart]
  exact if_neg (Nat.not_lt.mpr hnear)

end
end

/-- Settles O41: the request by its refusals, the seal by the state it finds, and the entry to CLOSING by the track
setting. -/
theorem clipStopAndSealBeginTheClosing : Obligations.ClipStopAndSealBeginTheClosing := by
  refine ⟨fun s tag last htakes => ⟨fun slot h => exec_clipStop_badArg htakes tag last h, fun i =>
    ⟨fun h => exec_clipStop_badState htakes tag last h, fun start hstate hstart =>
      ⟨exec_clipStop_tooFar htakes tag last hstate hstart, exec_clipStop_taken htakes tag last hstate hstart⟩⟩⟩,
    fun s i h => State.sealSlot_of_recording h, fun s i stop cause => rfl, fun sl stop counter cause idle =>
      ⟨fun h => Slot.close_of_track_off h stop cause idle counter, fun start next h hstart hnext => ?_⟩⟩
  exact Slot.close_of_track h hstart hnext rfl rfl cause

end Sys2Proof.Machine
end

section
/-! PROOFS. EXTENT ADD: its checks in order, and the extent appended (R58 to R60, R65, R68, R99). -/

namespace Sys2Proof.Machine

/-! ### The remaining video space (R65) -/

namespace Slot
variable {s : Slot}

theorem remaining_of_past (h : s.videoCursor.next = none) : s.remaining = 0 := by simp [remaining, h]

/-- The rest of the cursor's extent, and the extents after it. -/
theorem remaining_of_cursor {b : Nat} {e : Extent} (hnext : s.videoCursor.next = some b)
    (hextent : s.video[s.videoCursor.index]? = some e) :
    s.remaining = (e.start + e.length - b) + ((s.video.drop (s.videoCursor.index + 1)).map Extent.length).sum := by
  simp [remaining, hnext, hextent]

/-- An extent added to the video list adds its length to the remaining space, whether or not the cursor takes it. -/
theorem addVideo_remaining (x : Extent) (hpast : s.videoCursor.next = none → s.videoCursor.index = s.video.length)
    (hin : s.videoCursor.next ≠ none → s.videoCursor.index < s.video.length) :
    (s.addVideo x).remaining = s.remaining + x.length := by
  have hvideo : (s.addVideo x).video = s.video ++ [x] := rfl
  rcases hnext : s.videoCursor.next with _ | b
  · have hcursor : (s.addVideo x).videoCursor = ⟨s.video.length, some x.start⟩ := by
      simp [addVideo, Cursor.take, hnext, hpast hnext]
    rw [remaining_of_past hnext, remaining_of_cursor (b := x.start) (e := x) (by rw [hcursor]) (by simp [hvideo, hcursor]),
      hvideo, hcursor]
    simp
  · have hindex := hin (by rw [hnext]; nofun)
    have hcursor : (s.addVideo x).videoCursor = s.videoCursor := by simp [addVideo, Cursor.take, hnext]
    have hextent := List.getElem?_eq_getElem hindex
    rw [remaining_of_cursor hnext hextent,
      remaining_of_cursor (s := s.addVideo x) (hcursor ▸ hnext)
        (by rw [hcursor, hvideo, List.getElem?_append_left hindex, hextent]), hvideo, hcursor,
      List.drop_append_of_le_length hindex]
    simp [Nat.add_assoc]

end Slot

/-! ### The checks in order -/

namespace State
variable {s : State} {i : Fin 4} {stream : Stream} {start length : Nat}

theorem extentRefusal_of_not_open (h : ¬((s.slot i).state = .armed ∨ (s.slot i).state = .recording)) :
    s.extentRefusal i stream start length = some .badState := if_pos (not_or.mp h)

section
variable (hopen : (s.slot i).state = .armed ∨ (s.slot i).state = .recording)
include hopen

theorem extentRefusal_of_open : s.extentRefusal i stream start length =
    match s.path.card.state with
    | .starting => some .badState
    | .absent => some .noCard
    | .failed => some .noCard
    | .ready =>
      if s.path.card.capacity.getD 0 < start + length then some .outOfRange
      else if s.overlapsExtent start length || s.path.card.overlapsPlain start length then some .overlap
      else if (s.slot i).listFull stream then some .noSpace
      else if (s.slot i).tooShort stream length then some .badArg
      else none :=
  if_neg (not_and_or.mpr (by simpa only [not_not] using hopen))

variable {blocks : Nat} (hready : s.path.card.state = .ready) (hcapacity : s.path.card.capacity = some blocks)
include hready hcapacity

theorem extentRefusal_outOfRange (h : blocks < start + length) :
    s.extentRefusal i stream start length = some .outOfRange := by
  rw [extentRefusal_of_open hopen, hready, hcapacity]
  exact if_pos h

variable (hfits : start + length ≤ blocks)
include hfits

theorem extentRefusal_overlap
    (h : s.overlapsExtent start length = true ∨ s.path.card.overlapsPlain start length = true) :
    s.extentRefusal i stream start length = some .overlap := by
  rw [extentRefusal_of_open hopen, hready, hcapacity]
  exact (if_neg (Nat.not_lt.mpr hfits)).trans (if_pos (Bool.or_eq_true_iff.mpr h))

theorem extentRefusal_of_clear (hclear : ¬(s.overlapsExtent start length || s.path.card.overlapsPlain start length) = true) :
    s.extentRefusal i stream start length =
      if (s.slot i).listFull stream then some .noSpace
      else if (s.slot i).tooShort stream length then some .badArg
      else none := by
  rw [extentRefusal_of_open hopen, hready, hcapacity]
  exact (if_neg (Nat.not_lt.mpr hfits)).trans (if_neg hclear)

end
end State

section
variable {s : State} (htakes : s.Takes) (tag : Byte)
include htakes

theorem exec_extentAdd_badArg {slot : Nat} {stream : Option Stream} {start length : Nat}
    (h : 4 ≤ slot ∨ stream = none ∨ length = 0) :
    exec (.extentAdd tag slot stream start length) s = .next (s.replied tag .badArg .none) := by
  refine State.exec_of_refusal htakes rfl ?_
  rcases slotIndex_cases slot with ⟨i, hi, hslot⟩ | ⟨_, hslot⟩
  · rcases stream with _ | st
    · rw [hslot]
    · have hempty : length = 0 := by simpa [show ¬4 ≤ slot from hi ▸ Nat.not_le.mpr i.isLt] using h
      rw [hslot]
      exact if_pos hempty
  · rw [hslot]

variable {i : Fin 4} {st : Stream} {start length : Nat} (hlength : 1 ≤ length)
include hlength

theorem exec_extentAdd_refused {code : ReplyCode} (h : s.extentRefusal i st start length = some code) :
    exec (.extentAdd tag i (some st) start length) s = .next (s.replied tag code .none) := by
  have h' : s.owing.extentRefusal i st start length = some code := h
  refine State.exec_of_refusal htakes rfl ?_
  simp only [slotIndex_val, if_neg (Nat.one_le_iff_ne_zero.mp hlength), h']

theorem exec_extentAdd_taken (h : s.extentRefusal i st start length = none) :
    exec (.extentAdd tag i (some st) start length) s =
      .next ((s.onSlot i fun sl => sl.addExtent st ⟨start, length⟩).replied tag .ok .none) := by
  have h' : s.owing.extentRefusal i st start length = none := h
  refine State.exec_of_answer htakes rfl ?_ htakes.1
  simp only [slotIndex_val, if_neg (Nat.one_le_iff_ne_zero.mp hlength), h']
  rfl

end

/-! ### The extent appended -/

namespace Slot

theorem take_eq (c : Cursor) (e : Extent) : c.take e = if c.next = none then ⟨c.index, some e.start⟩ else c := by
  rcases h : c.next with _ | b <;> simp [Cursor.take, h]

theorem addVideo_eq (s : Slot) (e : Extent) {new : Slot}
    (hnew : { s with
      video := s.video ++ [e]
      videoCursor := if s.videoCursor.next = none then ⟨s.videoCursor.index, some e.start⟩ else s.videoCursor } = new) :
    s.addVideo e = { new with spaceLowArmed := s.spaceLowArmed || decide (s.lowWater ≤ new.remaining) } := by
  rw [← take_eq] at hnew
  subst hnew
  rfl

theorem addTrack_first {s : Slot} (h : s.trackList = []) (e : Extent) :
    s.addTrack e =
      { s with trackList := [e], trackCursor := if 2 ≤ e.length then ⟨0, some (e.start + 1)⟩ else ⟨1, none⟩ } := by
  simp [addTrack, trackCursorWith, h]

theorem addTrack_next {s : Slot} (h : s.trackList ≠ []) (e : Extent) :
    s.addTrack e =
      { s with
        trackList := s.trackList ++ [e]
        trackCursor := if s.trackCursor.next = none then ⟨s.trackCursor.index, some e.start⟩ else s.trackCursor } := by
  rw [addTrack, trackCursorWith, if_neg (by simpa using h), take_eq]

variable {s : Slot} {length : Nat}

/-- A track list holds at least one extent: two with track on, one with track off (R58). -/
theorem one_le_trackExtents (s : Slot) : 1 ≤ if s.track then 2 else 1 := by split <;> decide

/-- A video list with room takes every length. -/
theorem addRefusal_video (hroom : s.video.length < 16) :
    (if s.listFull .video then some .noSpace else if s.tooShort .video length then some .badArg else none) =
      (none : Option ReplyCode) :=
  (if_neg fun h => Nat.not_le.mpr hroom (of_decide_eq_true h)).trans (if_neg Bool.false_ne_true)

/-- A track list with room refuses only a first extent that is too short. -/
theorem addRefusal_track (hroom : s.trackList.length < if s.track then 2 else 1) :
    (if s.listFull .track then some .noSpace else if s.tooShort .track length then some .badArg else none) =
      if s.trackList = [] ∧ length < (if s.track then 2 else 1) then some ReplyCode.badArg else none := by
  have hfull : ¬s.listFull .track = true := fun h => Nat.not_le.mpr hroom (of_decide_eq_true h)
  rw [if_neg hfull]
  simp [tooShort]

end Slot

/-- Settles O40: the checks in order, each by State.extentRefusal, and the extent appended by its stream. -/
theorem extentAddIsCheckedAndAppended : Obligations.ExtentAddIsCheckedAndAppended := by
  refine ⟨fun s tag slot stream start length htakes => ⟨exec_extentAdd_badArg htakes tag, ?_⟩,
    fun sl x => ⟨Slot.remaining_of_past, Slot.addVideo_remaining x⟩⟩
  rintro i st rfl rfl hlength
  intro sl open_ answers becomes
  have refused := fun code => exec_extentAdd_refused htakes tag (i := i) (st := st) (start := start) hlength (code := code)
  have taken := exec_extentAdd_taken htakes tag (i := i) (st := st) (start := start) hlength
  refine ⟨fun hnot => refused _ (State.extentRefusal_of_not_open hnot), fun hopen hcard => refused _ ?_,
    fun hopen hcard => refused _ ?_, fun blocks hopen hready hcapacity => ⟨fun hout => refused _ ?_, fun hfits => ?_⟩⟩
  · rw [State.extentRefusal_of_open hopen, hcard]
  · rw [State.extentRefusal_of_open hopen]
    rcases hcard with hcard | hcard <;> rw [hcard]
  · exact State.extentRefusal_outOfRange hopen hready hcapacity hout
  · intro clash
    have hclash : clash ↔ (s.overlapsExtent start length || s.path.card.overlapsPlain start length) = true := by
      rw [Bool.or_eq_true, s.overlapsExtent_iff, s.path.card.overlapsPlain_iff]
    have hclear := fun hno : ¬clash =>
      State.extentRefusal_of_clear (stream := st) hopen hready hcapacity hfits (mt hclash.mpr hno)
    have appended : ∀ sl', sl.addExtent st ⟨start, length⟩ = sl' → s.extentRefusal i st start length = none →
        becomes sl' := fun sl' hsl' hnone => (taken hnone).trans (by rw [s.onSlot_congr i (g := fun _ => sl') hsl']; rfl)
    refine ⟨fun h => refused _ ?_, fun hno hvideo => ?_, fun hno htrack => ?_⟩
    · exact State.extentRefusal_overlap hopen hready hcapacity hfits (Bool.or_eq_true_iff.mp (hclash.mp h))
    · subst hvideo
      refine ⟨fun hfull => refused _ ((hclear hno).trans (if_pos (decide_eq_true hfull))), fun hroom => ?_⟩
      exact appended _ (Slot.addVideo_eq sl _ rfl) ((hclear hno).trans (Slot.addRefusal_video hroom))
    · subst htrack
      intro least
      have hleast : 1 ≤ least := Slot.one_le_trackExtents sl
      refine ⟨fun hfull => refused _ ((hclear hno).trans (if_pos (decide_eq_true hfull))), fun hempty hshort => refused _ ?_,
        fun hempty henough => ?_, fun hsome hroom => ?_⟩
      · rw [hclear hno, Slot.addRefusal_track (by rw [hempty]; exact hleast), if_pos ⟨hempty, hshort⟩]
      · refine appended _ (Slot.addTrack_first hempty _) ?_
        rw [hclear hno, Slot.addRefusal_track (by rw [hempty]; exact hleast),
          if_neg fun h => Nat.not_le.mpr h.2 henough]
      · refine appended _ (Slot.addTrack_next hsome _) ?_
        rw [hclear hno, Slot.addRefusal_track hroom, if_neg fun h => hsome h.1]

end Sys2Proof.Machine
end

section
/-! PROOFS. Data packets: the payload check, the totals, and PLAIN WRITE admitted or discarded (R69, R70, R75, R160). -/

namespace Sys2Proof.Machine

/-! ### A data packet with a good header -/

theorem payloadBlocks_of_length {n : Nat} {blocks : List Block} (h : blocks.length = n) :
    payloadBlocks n (some blocks) = some blocks := by simp [payloadBlocks, h]

theorem payloadBlocks_of_bad {n : Nat} {payload : Option (List Block)}
    (h : ∀ blocks, payload = some blocks → blocks.length ≠ n) : payloadBlocks n payload = none := by
  rw [payloadBlocks, Option.filter_eq_none_iff]
  intro blocks hblocks hlength
  exact h blocks hblocks (of_decide_eq_true hlength)

namespace State

theorem release_of_pos (s : State) {n : Nat} (h : 1 ≤ n) :
    s.release n =
      (s.onLink fun l => { l with released := l.released + BitVec.ofNat 16 n, creditPending := true }).chooseUnit :=
  if_neg (Nat.one_le_iff_ne_zero.mp h)

theorem takeData_of_bad (s : State) {n : Nat} {payload : Option (List Block)} (h : payloadBlocks n payload = none) :
    s.takeData n payload = s.countPayloadError.receive n := by simp [takeData, h]

theorem takeData_of_good (s : State) {n : Nat} {payload : Option (List Block)} {blocks : List Block}
    (h : payloadBlocks n payload = some blocks) : s.takeData n payload = s.receive n := by simp [takeData, h]

/-! ### The judgement of PLAIN WRITE (R69) -/

section
variable {s : State} {start n : Nat}

theorem plainRefusal_noCard (h : s.path.card.state ≠ .ready) : s.plainRefusal start n = some .noCard := if_pos h

variable {capacity : Nat} (hready : s.path.card.state = .ready) (hcapacity : s.path.card.capacity = some capacity)
include hready hcapacity

theorem plainRefusal_of_ready : s.plainRefusal start n =
    if capacity < start + n then some .outOfRange
    else if s.overlapsExtent start n then some .overlap
    else if s.path.card.freeBlocks < n then some .overrun
    else if s.path.card.openEntries = 0 then some .queueFull
    else none := by
  rw [plainRefusal, if_neg (not_not.mpr hready), hcapacity]
  rfl

/-- Within the card's capacity and clear of every extent, only the room of the queue can refuse. -/
theorem plainRefusal_of_clear (hfits : start + n ≤ capacity) (hclear : ¬s.overlapsExtent start n = true) :
    s.plainRefusal start n =
      if s.path.card.freeBlocks < n then some .overrun
      else if s.path.card.openEntries = 0 then some .queueFull
      else none := by
  rw [plainRefusal_of_ready hready hcapacity, if_neg (Nat.not_lt.mpr hfits), if_neg hclear]

end
end State

/-! ### PLAIN WRITE -/

section
variable {s : State} (hup : s.pathUp = true) {start n : Nat} {payload : Option (List Block)}
include hup

theorem exec_headerError_of_pathUp : exec .headerError s = .next s.headerError :=
  congrArg _ (State.whenUp_of_pathUp hup _)

theorem exec_plainWrite_badCount (h : n = 0 ∨ 16 < n) : exec (.plainWrite start n payload) s = exec .headerError s := by
  rw [exec_headerError_of_pathUp hup]
  show execPlainWrite start n payload s = _
  rw [execPlainWrite, State.whenUp_of_pathUp hup, if_neg (by omega)]

variable (hone : 1 ≤ n) (hmost : n ≤ 16)
include hone hmost

theorem exec_plainWrite_of_count : exec (.plainWrite start n payload) s =
    .next ((s.takeData n payload).takePlain start n (payloadBlocks n payload)) := by
  show execPlainWrite start n payload s = _
  rw [execPlainWrite, State.whenUp_of_pathUp hup, if_pos ⟨hone, hmost⟩]

theorem exec_plainWrite_badPayload (h : ∀ blocks, payload = some blocks → blocks.length ≠ n) :
    exec (.plainWrite start n payload) s = .next ((s.countPayloadError.receive n).discardPlain start n .link) := by
  have hbad := payloadBlocks_of_bad h
  rw [exec_plainWrite_of_count hup hone hmost, hbad, s.takeData_of_bad hbad]
  rfl

variable {blocks : List Block} (hpayload : payload = some blocks) (hlength : blocks.length = n)
include hpayload hlength

theorem exec_plainWrite_refused {cause : DiscardCause} (h : s.plainRefusal start n = some cause) :
    exec (.plainWrite start n payload) s = .next ((s.receive n).discardPlain start n cause) := by
  subst hpayload
  have hgood := payloadBlocks_of_length hlength
  have h' : (s.receive n).plainRefusal start n = some cause := h
  rw [exec_plainWrite_of_count hup hone hmost, hgood, s.takeData_of_good hgood, State.takePlain]
  simp only [h']

theorem exec_plainWrite_admitted (h : s.plainRefusal start n = none) :
    exec (.plainWrite start n payload) s =
      .next ((s.receive n).onCard fun c => c.join .plain start n (.blocks blocks)) := by
  subst hpayload
  have hgood := payloadBlocks_of_length hlength
  have h' : (s.receive n).plainRefusal start n = none := h
  rw [exec_plainWrite_of_count hup hone hmost, hgood, s.takeData_of_good hgood, State.takePlain]
  simp only [h']

end

/-- Settles O43: the checks in order, each by State.plainRefusal; the discard and the admission are one state each. -/
theorem plainWriteIsAdmittedOrDiscarded : Obligations.PlainWriteIsAdmittedOrDiscarded := by
  refine fun s hup => ⟨fun start n payload => exec_plainWrite_badCount hup, fun start n payload hone hmost => ?_⟩
  intro r discarded
  have discards : ∀ u cause, u.path.link.released = s.path.link.released →
      exec (.plainWrite start n payload) s = .next (u.discardPlain start n cause) → discarded u cause := by
    intro u cause hreleased hexec
    refine hexec.trans ?_
    rw [State.discardPlain, u.release_of_pos hone, State.onLink, hreleased]
  refine ⟨fun hbad => discards _ _ rfl (exec_plainWrite_badPayload hup hone hmost hbad), fun blocks hpayload hlength => ?_⟩
  have refused : ∀ cause, s.plainRefusal start n = some cause → discarded r cause := fun cause h =>
    discards r cause rfl (exec_plainWrite_refused hup hone hmost hpayload hlength h)
  refine ⟨fun hcard => refused _ (State.plainRefusal_noCard hcard), fun capacity hready hcapacity =>
    ⟨fun hout => refused _ ?_, fun hfits => ?_⟩⟩
  · rw [State.plainRefusal_of_ready hready hcapacity, if_pos hout]
  · intro clash free entries
    have hclash : clash ↔ s.overlapsExtent start n = true := (s.overlapsExtent_iff start n).symm
    have hclear := fun hno : ¬clash => State.plainRefusal_of_clear hready hcapacity hfits (mt hclash.mpr hno)
    refine ⟨fun h => refused _ ?_, fun hno hfew => refused _ ?_, fun hno hfree hfull => refused _ ?_,
      fun hno hfree hroom => ?_⟩
    · rw [State.plainRefusal_of_ready hready hcapacity, if_neg (Nat.not_lt.mpr hfits), if_pos (hclash.mp h)]
    · exact (hclear hno).trans (if_pos hfew)
    · exact ((hclear hno).trans (if_neg (Nat.not_lt.mpr hfree))).trans (if_pos hfull)
    · exact exec_plainWrite_admitted hup hone hmost hpayload hlength
        (((hclear hno).trans (if_neg (Nat.not_lt.mpr hfree))).trans (if_neg (Nat.one_le_iff_ne_zero.mp hroom)))

end Sys2Proof.Machine
end

section
/-! PROOFS. CLIP DATA: the blocks laid over the extents, and the packet placed whole or discarded whole (R66 to R68, R70). -/

namespace Sys2Proof.Machine

/-! ### The blocks laid over the extents (R67) -/

/-- What laying blocks from a block of the first extent answers: all of them short of the extent's end, or up to it, or a
piece up to it and the rest from the first block of the next extent (R67). -/
inductive Lays : List Extent → Nat → Nat → List Block → List (Nat × List Block) × Cursor → Prop
  | within {e : Extent} {rest : List Extent} {index next : Nat} {blocks : List Block} :
      1 ≤ blocks.length → next + blocks.length < e.start + e.length →
      Lays (e :: rest) index next blocks ([(next, blocks)], ⟨index, some (next + blocks.length)⟩)
  | toEnd {e : Extent} {rest : List Extent} {index next : Nat} {blocks : List Block} :
      1 ≤ blocks.length → next + blocks.length = e.start + e.length →
      Lays (e :: rest) index next blocks ([(next, blocks)], ⟨index + 1, rest.head?.map Extent.start⟩)
  | onward {e e2 : Extent} {rest : List Extent} {index next : Nat} {piece later : List Block}
      {laid : List (Nat × List Block) × Cursor} :
      1 ≤ piece.length → next + piece.length = e.start + e.length → Lays (e2 :: rest) (index + 1) e2.start later laid →
      Lays (e :: e2 :: rest) index next (piece ++ later) ((next, piece) :: laid.1, laid.2)

theorem layBlocks_nil (e : Extent) (rest : List Extent) (index next : Nat) :
    layBlocks (e :: rest) index next [] = ([], ⟨index, some next⟩) := rfl

section
variable {e : Extent} {rest : List Extent} {index next : Nat} {blocks : List Block} (hsome : 1 ≤ blocks.length)
include hsome

theorem layBlocks_within (h : next + blocks.length < e.start + e.length) :
    layBlocks (e :: rest) index next blocks = ([(next, blocks)], ⟨index, some (next + blocks.length)⟩) := by
  have hnonempty : blocks ≠ [] := List.length_pos_iff.mp hsome
  rw [layBlocks, if_neg (by simpa using hnonempty), if_pos (by omega)]

theorem layBlocks_toEnd (h : next + blocks.length = e.start + e.length) :
    layBlocks (e :: rest) index next blocks = ([(next, blocks)], ⟨index + 1, rest.head?.map Extent.start⟩) := by
  have hnonempty : blocks ≠ [] := List.length_pos_iff.mp hsome
  have hroom : e.start + e.length - next = blocks.length := by omega
  rw [layBlocks, if_neg (by simpa using hnonempty), hroom, if_neg (Nat.lt_irrefl _)]
  rcases rest with _ | ⟨e2, rest⟩ <;> simp [layBlocks_nil]

omit hsome in
theorem layBlocks_onward {e2 : Extent} {piece later : List Block} (hpiece : 1 ≤ piece.length)
    (h : next + piece.length = e.start + e.length) :
    layBlocks (e :: e2 :: rest) index next (piece ++ later) =
      ((next, piece) :: (layBlocks (e2 :: rest) (index + 1) e2.start later).1,
        (layBlocks (e2 :: rest) (index + 1) e2.start later).2) := by
  have hnonempty : piece ≠ [] := List.length_pos_iff.mp hpiece
  have hroom : e.start + e.length - next = piece.length := by omega
  rw [layBlocks, if_neg (by simp [hnonempty]), hroom, if_neg (by simp)]
  simp

end

/-- Blocks that fit in the rest of the first extent and the extents after it are laid (R67). -/
theorem layBlocks_lays {e : Extent} {rest : List Extent} {index next : Nat} {blocks : List Block}
    (hnext : next < e.start + e.length) (hrest : ∀ x ∈ rest, 1 ≤ x.length) (hsome : 1 ≤ blocks.length)
    (hfit : blocks.length ≤ (e.start + e.length - next) + (rest.map Extent.length).sum) :
    Lays (e :: rest) index next blocks (layBlocks (e :: rest) index next blocks) := by
  induction rest generalizing e index next blocks with
  | nil =>
    simp only [List.map_nil, List.sum_nil, Nat.add_zero] at hfit
    by_cases hshort : next + blocks.length < e.start + e.length
    · exact layBlocks_within hsome hshort ▸ .within hsome hshort
    · have hend : next + blocks.length = e.start + e.length := by omega
      exact layBlocks_toEnd hsome hend ▸ .toEnd hsome hend
  | cons e2 rest ih =>
    rcases Nat.lt_trichotomy (next + blocks.length) (e.start + e.length) with hshort | hend | hlong
    · exact layBlocks_within hsome hshort ▸ .within hsome hshort
    · exact layBlocks_toEnd hsome hend ▸ .toEnd hsome hend
    · obtain ⟨piece, later, rfl, hpiece⟩ : ∃ piece later, blocks = piece ++ later ∧
          piece.length = e.start + e.length - next :=
        ⟨_, _, (List.take_append_drop _ blocks).symm, List.length_take_of_le (by omega)⟩
      have hone : 1 ≤ piece.length := by omega
      have hend : next + piece.length = e.start + e.length := by omega
      simp only [List.length_append, List.map_cons, List.sum_cons] at hfit hlong
      rw [layBlocks_onward hone hend]
      refine .onward hone hend (ih ?_ (fun x hx => hrest x (List.mem_cons_of_mem _ hx)) ?_ ?_)
      · have := hrest e2 List.mem_cons_self; omega
      · omega
      · omega

namespace Lays
variable {extents : List Extent} {index next : Nat} {blocks : List Block} {laid : List (Nat × List Block) × Cursor}

theorem flatten (h : Lays extents index next blocks laid) : (laid.1.map Prod.snd).flatten = blocks := by
  induction h with
  | within _ _ | toEnd _ _ => simp
  | onward _ _ _ ih => simp [ih]

theorem one_le_length (h : Lays extents index next blocks laid) : 1 ≤ laid.1.length := by
  cases h <;> simp

/-- The pieces lie in the extents one by one, and the cursor stands after the last (R65, R67). -/
theorem piece (h : Lays extents index next blocks laid) (k : Nat) (p : Nat × List Block) (hp : laid.1[k]? = some p) :
    ∃ x, extents[k]? = some x ∧ 1 ≤ p.2.length ∧ p.1 = (if k = 0 then next else x.start) ∧
      p.1 + p.2.length ≤ x.start + x.length ∧ (k + 1 < laid.1.length → p.1 + p.2.length = x.start + x.length) ∧
      (k + 1 = laid.1.length →
        laid.2 = if p.1 + p.2.length < x.start + x.length then ⟨index + k, some (p.1 + p.2.length)⟩
          else ⟨index + k + 1, extents[k + 1]?.map Extent.start⟩) := by
  induction h generalizing k with
  | @within e rest index next blocks hsome hshort =>
    obtain ⟨rfl, rfl⟩ : k = 0 ∧ (next, blocks) = p := by simpa [List.getElem?_singleton, ← and_assoc] using hp
    exact ⟨e, rfl, hsome, rfl, hshort.le, by simp, fun _ => (if_pos hshort).symm⟩
  | @toEnd e rest index next blocks hsome hend =>
    obtain ⟨rfl, rfl⟩ : k = 0 ∧ (next, blocks) = p := by simpa [List.getElem?_singleton, ← and_assoc] using hp
    exact ⟨e, rfl, hsome, rfl, hend.le, by simp, fun _ => by simp [hend, List.head?_eq_getElem?]⟩
  | @onward e e2 rest index next first later laid hsome hend hlater ih =>
    rcases k with _ | k
    · obtain rfl : (next, first) = p := by simpa using hp
      have := hlater.one_le_length
      exact ⟨e, rfl, hsome, rfl, hend.le, fun _ => hend, fun hlast => by simp only [List.length_cons] at hlast; omega⟩
    · obtain ⟨x, hx, hone, hstart, hin, hnotlast, hlast⟩ := ih k hp
      refine ⟨x, hx, hone, ?_, hin, fun hk => hnotlast (by simpa using hk), fun hk => ?_⟩
      · rw [hstart, if_neg k.succ_ne_zero]
        split
        case isTrue hzero => subst hzero; exact congrArg Extent.start (Option.some.inj hx)
        case isFalse => rfl
      · rw [hlast (by simpa using hk), Nat.add_right_comm index 1 k, List.getElem?_cons_succ]
        rfl

end Lays

namespace Slot

/-- The remaining video space with the cursor at a place (R65). -/
def spaceFrom (s : Slot) (cursor : Cursor) : Nat := { s with videoCursor := cursor }.remaining

variable {s : Slot}

theorem spaceFrom_past {index : Nat} : s.spaceFrom ⟨index, none⟩ = 0 := remaining_of_past rfl

/-- The rest of the cursor's extent, and the extents after it (R65). -/
theorem spaceFrom_of_drop {index b : Nat} {e : Extent} {rest : List Extent} (hdrop : s.video.drop index = e :: rest) :
    s.spaceFrom ⟨index, some b⟩ = (e.start + e.length - b) + (rest.map Extent.length).sum := by
  have hextent : s.video[index]? = some e := by rw [← List.head?_drop, hdrop]; rfl
  have hrest : s.video.drop (index + 1) = rest := by rw [← List.tail_drop, hdrop]; rfl
  rw [spaceFrom, remaining_of_cursor rfl hextent, hrest]

/-- The blocks laid leave the remaining space (R65, R67). -/
theorem spaceFrom_of_lays {extents : List Extent} {index next : Nat} {blocks : List Block}
    {laid : List (Nat × List Block) × Cursor} (h : Lays extents index next blocks laid)
    (hdrop : s.video.drop index = extents) :
    s.spaceFrom laid.2 + blocks.length = s.spaceFrom ⟨index, some next⟩ := by
  induction h with
  | within _ hshort =>
    rw [spaceFrom_of_drop hdrop, spaceFrom_of_drop hdrop]
    omega
  | @toEnd e rest index next blocks _ hend =>
    have htail : s.video.drop (index + 1) = rest := by rw [← List.tail_drop, hdrop]; rfl
    rw [spaceFrom_of_drop hdrop]
    rcases rest with _ | ⟨e2, rest⟩
    · simp only [List.head?_nil, Option.map_none, spaceFrom_past, List.map_nil, List.sum_nil]
      omega
    · simp only [List.head?_cons, Option.map_some, spaceFrom_of_drop htail, List.map_cons, List.sum_cons]
      omega
  | @onward e e2 rest index _ _ _ _ _ hend _ ih =>
    have htail : s.video.drop (index + 1) = e2 :: rest := by rw [← List.tail_drop, hdrop]; rfl
    have hlater := ih htail
    rw [spaceFrom_of_drop htail] at hlater
    simp only [spaceFrom_of_drop hdrop, List.map_cons, List.sum_cons, List.length_append]
    omega

theorem lay_of_cursor {b : Nat} (hnext : s.videoCursor.next = some b) (blocks : List Block) :
    s.lay blocks = layBlocks (s.video.drop s.videoCursor.index) s.videoCursor.index b blocks := by
  simp [lay, hnext]

/-- Blocks that fit the remaining space are laid from the cursor (R67). -/
theorem lay_lays {b : Nat} {e : Extent} {blocks : List Block} (hnext : s.videoCursor.next = some b)
    (hextent : s.video[s.videoCursor.index]? = some e) (hin : b < e.start + e.length)
    (hvideo : ∀ x ∈ s.video, 1 ≤ x.length) (hsome : 1 ≤ blocks.length) (hfit : blocks.length ≤ s.remaining) :
    Lays (s.video.drop s.videoCursor.index) s.videoCursor.index b blocks (s.lay blocks) := by
  obtain ⟨hindex, rfl⟩ := List.getElem?_eq_some_iff.mp hextent
  rw [remaining_of_cursor hnext hextent] at hfit
  rw [lay_of_cursor hnext, List.drop_eq_getElem_cons hindex]
  exact layBlocks_lays hin (fun x hx => hvideo x (List.mem_of_mem_drop hx)) hsome hfit

end Slot

/-! ### The pieces in the write queue (R76) -/

theorem Card.joinPieces_eq (c : Card) (i : Fin 4) (pieces : List (Nat × List Block)) :
    c.joinPieces i pieces =
      { c with
        nextSeq := c.nextSeq + BitVec.ofNat 32 pieces.length
        queue := c.queue ++ pieces.zipIdx.map fun p =>
          ⟨c.nextSeq + BitVec.ofNat 32 p.2, .slot i .video, p.1.1, p.1.2.length, .blocks p.1.2⟩ } := by
  induction pieces using List.reverseRecOn with
  | nil => simp [joinPieces]
  | append_singleton pieces p ih =>
    have hjoin : c.joinPieces i (pieces ++ [p]) =
        (c.joinPieces i pieces).join (.slot i .video) p.1 p.2.length (.blocks p.2) := by simp [joinPieces]
    rw [hjoin, ih]
    simp [join, List.zipIdx_append, BitVec.ofNat_add, BitVec.add_assoc]

end Sys2Proof.Machine
end

section
/-! PROOFS. CLIP DATA: the judgement of a packet, its discard and its placement (R66, R68, R70). -/

namespace Sys2Proof.Machine

/-- A slot as a placed packet leaves it, but for SPACE LOW: the cursor after the blocks laid, and the blocks counted
(R67). -/
def Slot.laid (s : Slot) (blocks : List Block) : Slot :=
  { s with videoCursor := (s.lay blocks).2, accepted := satAdd s.accepted blocks.length }

namespace State

/-! ### The judgement in order (R66) -/

section
variable {s : State} {i : Fin 4} {blocks : List Block}

theorem clipDataRefusal_badState (h : (s.slot i).state ≠ .recording) : s.clipDataRefusal i blocks = some .badState :=
  if_pos h

variable (hrecording : (s.slot i).state = .recording)
include hrecording

theorem clipDataRefusal_noSpace (h : (s.slot i).remaining < blocks.length) :
    s.clipDataRefusal i blocks = some .noSpace :=
  (if_neg (not_not.mpr hrecording)).trans (if_pos h)

/-- In RECORDING with the space for the packet, only the room of the queue can refuse. -/
theorem clipDataRefusal_of_space (h : blocks.length ≤ (s.slot i).remaining) :
    s.clipDataRefusal i blocks =
      if s.path.card.freeBlocks < blocks.length then some .overrun
      else if s.path.card.openEntries < ((s.slot i).lay blocks).1.length then some .queueFull
      else none :=
  (if_neg (not_not.mpr hrecording)).trans (if_neg (Nat.not_lt.mpr h))

end

/-! ### Discarded and placed -/

/-- A discarded packet: the blocks released, the gap counted on a slot in use, and the notice (R70). -/
theorem discardClip_eq (s : State) (i : Fin 4) (n : Nat) (cause : DiscardCause) :
    s.discardClip i n cause =
      if (s.slot i).state = .free then (s.release n).notify (.dataDiscarded (some i) none n cause none)
      else ((s.release n).onSlot i fun sl => { sl with gaps := satAdd sl.gaps 1 }).notify
        (.dataDiscarded (some i) none n cause (some (satAdd (s.slot i).gaps 1))) := by
  have hslot : (s.release n).slot i = s.slot i := by simp [slot]
  have hgaps : (s.slot i).countGap.gaps = if (s.slot i).state = .free then (s.slot i).gaps else satAdd (s.slot i).gaps 1 := by
    rw [Slot.countGap]; split <;> rfl
  have hstate : (s.slot i).countGap.state = (s.slot i).state := by rw [Slot.countGap]; split <;> rfl
  simp only [discardClip, onSlot_slot_self, hslot, hstate, hgaps]
  split
  case isTrue hfree => rw [onSlot_self (f := Slot.countGap) _ _ (by rw [hslot]; exact if_pos hfree)]
  case isFalse hused =>
    have hcounted : (s.slot i).countGap = { s.slot i with gaps := satAdd (s.slot i).gaps 1 } := if_neg hused
    rw [onSlot_congr _ i (f := Slot.countGap) (g := fun sl => { sl with gaps := satAdd sl.gaps 1 }) (hslot ▸ hcounted)]

/-- A placed packet: the cursor moved and the blocks counted, the pieces queued, and SPACE LOW offered where the space is
now below the low-water (R67, R68). -/
theorem placePacket_eq (s : State) (i : Fin 4) (blocks : List Block) {low : Bool} {u : State}
    (hlow : ((s.slot i).spaceLowArmed && decide (((s.slot i).laid blocks).remaining < (s.slot i).lowWater)) = low)
    (hu : (s.onSlot i fun sl => { sl.laid blocks with spaceLowArmed := sl.spaceLowArmed && !low }).onCard
      (fun c => c.joinPieces i ((s.slot i).lay blocks).1) = u) :
    s.placePacket i blocks =
      if low then u.notify (.spaceLow i (s.slot i).clip ((s.slot i).laid blocks).remaining (s.slot i).lowWater) else u := by
  have hslot : ((s.onSlot i fun sl => sl.laid blocks).onCard fun c => c.joinPieces i ((s.slot i).lay blocks).1).slot i =
      (s.slot i).laid blocks := s.onSlot_slot_self i fun sl => sl.laid blocks
  have hplaced : s.placePacket i blocks =
      ((s.onSlot i fun sl => sl.laid blocks).onCard fun c => c.joinPieces i ((s.slot i).lay blocks).1).checkSpaceLow i := by
    rw [s.onSlot_congr i (g := fun sl =>
      { sl with videoCursor := ((s.slot i).lay blocks).2, accepted := satAdd sl.accepted blocks.length }) rfl]
    rfl
  rw [hplaced, checkSpaceLow_eq _ i (low := low) (hslot ▸ hlow), hslot, onCard_onSlot, onSlot_onSlot]
  exact hu ▸ rfl

end State

/-! ### CLIP DATA -/

section
variable {s : State} (hup : s.pathUp = true) {n : Nat} {payload : Option (List Block)}
include hup

theorem exec_clipData_badHeader {slot : Nat} (h : 4 ≤ slot ∨ n = 0 ∨ 16 < n) :
    exec (.clipData slot n payload) s = exec .headerError s := by
  rw [exec_headerError_of_pathUp hup]
  show execClipData slot n payload s = _
  rw [execClipData, State.whenUp_of_pathUp hup]
  rcases slotIndex_cases slot with ⟨i, rfl, hslot⟩ | ⟨_, hslot⟩
  · have hcount : ¬(1 ≤ n ∧ n ≤ 16) := by omega
    rw [hslot]
    exact congrArg _ (if_neg hcount)
  · rw [hslot]

variable {i : Fin 4} (hone : 1 ≤ n) (hmost : n ≤ 16)
include hone hmost

theorem exec_clipData_of_count : exec (.clipData i n payload) s =
    .next ((s.takeData n payload).takeClipData i n (payloadBlocks n payload)) := by
  show execClipData i n payload s = _
  rw [execClipData, State.whenUp_of_pathUp hup, slotIndex_val]
  exact congrArg _ (if_pos ⟨hone, hmost⟩)

theorem exec_clipData_badPayload (h : ∀ blocks, payload = some blocks → blocks.length ≠ n) :
    exec (.clipData i n payload) s = .next ((s.countPayloadError.receive n).discardClip i n .link) := by
  have hbad := payloadBlocks_of_bad h
  rw [exec_clipData_of_count hup hone hmost, hbad, s.takeData_of_bad hbad]
  rfl

variable {blocks : List Block} (hpayload : payload = some blocks) (hlength : blocks.length = n)
include hpayload hlength

theorem exec_clipData_refused {cause : DiscardCause} (h : s.clipDataRefusal i blocks = some cause) :
    exec (.clipData i n payload) s = .next ((s.receive n).discardClip i n cause) := by
  subst hpayload
  have hgood := payloadBlocks_of_length hlength
  have h' : (s.receive n).clipDataRefusal i blocks = some cause := h
  rw [exec_clipData_of_count hup hone hmost, hgood, s.takeData_of_good hgood, State.takeClipData]
  simp only [h']

theorem exec_clipData_placed (h : s.clipDataRefusal i blocks = none) :
    exec (.clipData i n payload) s = .next ((s.receive n).placePacket i blocks) := by
  subst hpayload
  have hgood := payloadBlocks_of_length hlength
  have h' : (s.receive n).clipDataRefusal i blocks = none := h
  rw [exec_clipData_of_count hup hone hmost, hgood, s.takeData_of_good hgood, State.takeClipData]
  simp only [h']

end

/-- Settles O42: the judgement in order, each by State.clipDataRefusal; the discard and the placement are one state each;
and the blocks laid are Lays. -/
theorem clipDataIsPlacedWholeOrDiscarded : Obligations.ClipDataIsPlacedWholeOrDiscarded := by
  refine ⟨fun s hup => ⟨fun slot n payload => exec_clipData_badHeader hup, fun i n payload hone hmost => ?_⟩,
    fun sl blocks b e hnext hextent _ hin hvideo hsome hfit => ?_⟩
  · intro sl r discarded
    have discards : ∀ u cause, u.path.link.released = s.path.link.released → u.path.slots = s.path.slots →
        exec (.clipData i n payload) s = .next (u.discardClip i n cause) → discarded u cause := by
      intro u cause hreleased hslots hexec
      have hslot : u.slot i = sl := by rw [State.slot, hslots]; rfl
      refine hexec.trans (congrArg _ ?_)
      rw [u.discardClip_eq, hslot, u.release_of_pos hone, ← hreleased, ← hslots]
      by_cases hfree : sl.state = .free
      · simp only [if_pos hfree]
        rfl
      · simp only [if_neg hfree]
        rw [← hslot]
        rfl
    refine ⟨fun hbad => discards _ _ rfl rfl (exec_clipData_badPayload hup hone hmost hbad),
      fun blocks hpayload hlength => ?_⟩
    have refused : ∀ cause, s.clipDataRefusal i blocks = some cause → discarded r cause := fun cause h =>
      discards r cause rfl rfl (exec_clipData_refused hup hone hmost hpayload hlength h)
    subst hlength
    refine ⟨fun hstate => refused _ (State.clipDataRefusal_badState hstate),
      fun hrecording hspace => refused _ (State.clipDataRefusal_noSpace hrecording hspace), fun hrecording hspace => ?_⟩
    intro free entries
    have hjudged := State.clipDataRefusal_of_space hrecording hspace
    refine ⟨fun hfew => refused _ (hjudged.trans (if_pos hfew)),
      fun hfree hfull => refused _ ((hjudged.trans (if_neg (Nat.not_lt.mpr hfree))).trans (if_pos hfull)),
      fun hfree hroom => ?_⟩
    intro new low u
    have hnone := (hjudged.trans (if_neg (Nat.not_lt.mpr hfree))).trans (if_neg (Nat.not_lt.mpr hroom))
    refine (exec_clipData_placed hup hone hmost hpayload rfl hnone).trans
      (congrArg _ ((s.receive blocks.length).placePacket_eq i blocks (low := low) (u := u) rfl ?_))
    simp only [Card.joinPieces_eq]
    rfl
  · have hlaid := Slot.lay_lays hnext hextent hin hvideo hsome hfit
    have hcursor : sl.videoCursor = ⟨sl.videoCursor.index, some b⟩ := by rw [← hnext]
    refine ⟨hlaid.flatten, hlaid.one_le_length, fun k p hp => ?_, ?_⟩
    · simpa only [List.getElem?_drop, Nat.add_assoc] using hlaid.piece k p hp
    · exact (Slot.spaceFrom_of_lays hlaid rfl).trans (congrArg sl.spaceFrom hcursor).symm

end Sys2Proof.Machine
end

section
/-! PROOFS. The closing of a clip: handbacks, padding, the summary and the seal (R99, R100, R104 to R106). -/

namespace Sys2Proof.Machine
namespace State

/-! ### A handback taken (R100, R106) -/

section
variable {s : State} {i : Fin 4} {b : Fin 2} {result : HandbackResult}

theorem takeHandback_of_free (h : (s.slot i).state = .free) :
    s.takeHandback ⟨i, b, result⟩ = s.onSlot i fun sl => sl.setBuffer b .free := by
  simp only [takeHandback, h]

variable (hused : (s.slot i).state ≠ .free)
include hused

section
variable {records : List FrameRecord} (hbuffer : (s.slot i).buffers[b] = .queuedTrack records)
include hbuffer

theorem takeHandback_done : s.takeHandback ⟨i, b, .done⟩ = s.onSlot i fun sl =>
    { sl.setBuffer b .free with recordsWritten := satAdd sl.recordsWritten (realRecords records) } := by
  simp only [takeHandback, hbuffer]; rfl

theorem takeHandback_failed : s.takeHandback ⟨i, b, .failed⟩ = s.onSlot i fun sl =>
    { sl.setBuffer b .free with recordsLost := satAdd sl.recordsLost (realRecords records) } := by
  simp only [takeHandback, hbuffer]; rfl

end

/-- A buffer taken out of the queue by a teardown is freed, with nothing counted (R90). -/
theorem takeHandback_removed (hheld : (s.slot i).buffers[b] ≠ .free)
    (hqueued : ∀ records, (s.slot i).buffers[b] ≠ .filling records) :
    s.takeHandback ⟨i, b, .removed⟩ = s.onSlot i fun sl => sl.setBuffer b .free := by
  rcases hbuffer : (s.slot i).buffers[b] with _ | records | records | summary
  · exact absurd hbuffer hheld
  · exact absurd hbuffer (hqueued records)
  · simp only [takeHandback, hbuffer]
  · simp only [takeHandback, hbuffer]

theorem takeHandback_summary {summary : Summary} (hbuffer : (s.slot i).buffers[b] = .queuedSummary summary)
    (hwritten : result ≠ .removed) :
    s.takeHandback ⟨i, b, result⟩ = s.sealed i summary (decide (result = .failed)) := by
  cases result with
  | done => simp only [takeHandback, hbuffer]; rfl
  | failed => simp only [takeHandback, hbuffer]; rfl
  | removed => exact absurd rfl hwritten

end

/-- A seal: the notice, the slot FREE, and its retained entry gone; nothing else moves (R106, R155). -/
theorem sealed_eq (s : State) (i : Fin 4) (summary : Summary) (failed : Bool) {v : State}
    (hv : s.notify (.clipSealed i summary failed) = v) :
    s.sealed i summary failed =
      { v with
        path.slots := s.path.slots.set i Slot.freed
        mon.energy.retained := s.mon.energy.retained.filter fun c => decide (c.slot ≠ i) } := by
  obtain ⟨_, _, hmon, _, _, _, hslots, _⟩ := s.notify_frame (.clipSealed i summary failed)
  subst hv
  rw [← hslots, ← hmon]
  rfl

/-! ### The padding (R104) -/

section
variable {s : State} {i : Fin 4}

theorem padded_of_some {b : Fin 2} {records : List FrameRecord} {block : Nat}
    (hnext : (s.slot i).trackCursor.next = some block) :
    (s.placeBuffer i b (padRecords records)).onSlot i (fun sl => { sl with step := .drain }) =
      (s.onSlot i fun sl =>
        { sl.setBuffer b (.queuedTrack (padRecords records)) with
          step := .drain, trackCursor := sl.trackCursor.advance sl.trackList }).joinTrack i b block := by
  rw [placeBuffer_of_some hnext, joinTrack, onCard_onSlot, onSlot_onSlot,
    s.onSlot_congr i (g := fun sl =>
      { sl.setBuffer b (.queuedTrack (padRecords records)) with
        step := .drain, trackCursor := sl.trackCursor.advance sl.trackList }) (by simp [Slot.placed, hnext])]
  rfl

theorem padded_of_none {b : Fin 2} {records : List FrameRecord} (hnext : (s.slot i).trackCursor.next = none) :
    (s.placeBuffer i b (padRecords records)).onSlot i (fun sl => { sl with step := .drain }) =
      s.onSlot i fun sl =>
        { sl.setBuffer b .free with
          step := .drain, recordsLost := satAdd sl.recordsLost (realRecords records) } := by
  rw [placeBuffer_of_none hnext, onSlot_onSlot]
  exact s.onSlot_congr i (by simp [Slot.placed_of_none hnext, realRecords_padRecords])

/-! ### The summary (R105) -/

theorem summaryDue_iff : s.summaryDue i = true ↔
    (s.slot i).state = .closing ∧ (s.slot i).step = .drain ∧ (∀ e ∈ s.path.card.queue, e.slot? ≠ some i) ∧
      (s.slot i).buffers[0] = .free ∧ (s.slot i).buffers[1] = .free := by
  simp [summaryDue, Card.drained, and_assoc]

end
end State

/-! ### The three commands -/

section
variable {s : State} (hup : s.pathUp = true)
include hup

theorem exec_bufferHandback_none (h : s.path.card.handbacks = []) : exec .bufferHandback s = .next s := by
  show execBufferHandback s = _
  rw [execBufferHandback, State.whenUp_of_pathUp hup, h]

theorem exec_bufferHandback {x : Handback} {rest : List Handback} (h : s.path.card.handbacks = x :: rest) :
    exec .bufferHandback s = .next ((s.onCard fun c => { c with handbacks := rest }).takeHandback x) := by
  show execBufferHandback s = _
  rw [execBufferHandback, State.whenUp_of_pathUp hup, h]

variable {i : Fin 4}

theorem exec_closingPad_of_not_due (h : (s.slot i).state ≠ .closing ∨ (s.slot i).step ≠ .pad) :
    exec (.closingPad i) s = .next s := by
  have hnot : ¬(s.slot i).padDue = true := by simpa [Slot.padDue, ← not_and_or] using h
  show execClosingPad i s = _
  rw [execClosingPad, State.whenUp_of_pathUp hup, if_neg hnot]

section
variable (hclosing : (s.slot i).state = .closing) (hstep : (s.slot i).step = .pad)
include hclosing hstep

theorem exec_closingPad_none (h : (s.slot i).filling = none) :
    exec (.closingPad i) s = .next (s.onSlot i fun sl => { sl with step := .drain }) := by
  have hdue : (s.slot i).padDue = true := by simp [Slot.padDue, hclosing, hstep]
  show execClosingPad i s = _
  rw [execClosingPad, State.whenUp_of_pathUp hup, if_pos hdue, h]

theorem exec_closingPad_some {b : Fin 2} {records : List FrameRecord} (h : (s.slot i).filling = some (b, records)) :
    exec (.closingPad i) s =
      .next ((s.placeBuffer i b (padRecords records)).onSlot i fun sl => { sl with step := .drain }) := by
  have hdue : (s.slot i).padDue = true := by simp [Slot.padDue, hclosing, hstep]
  show execClosingPad i s = _
  rw [execClosingPad, State.whenUp_of_pathUp hup, if_pos hdue, h]

end

theorem exec_summaryBuild_of_not_due (h : ¬s.summaryDue i = true) : exec (.summaryBuild i) s = .next s := by
  show execSummaryBuild i s = _
  rw [execSummaryBuild, State.whenUp_of_pathUp hup, Bool.eq_false_of_not_eq_true h]

theorem exec_summaryBuild_of_due (h : s.summaryDue i = true) {x : Extent} {rest : List Extent}
    (htrack : (s.slot i).trackList = x :: rest) :
    exec (.summaryBuild i) s = .next
      ((s.onSlot i fun sl => { sl.setBuffer 0 (.queuedSummary sl.summary) with step := .sealing }).onCard
        fun c => c.join (.slot i .summary) x.start 1 (.buffer 0)) := by
  show execSummaryBuild i s = _
  rw [execSummaryBuild, State.whenUp_of_pathUp hup, h, htrack]

end

/-- Settles O50: the oldest handback by what its buffer holds, the padding by the track cursor, and the summary by
whether it is due. -/
theorem closingRunsToTheSeal : Obligations.ClosingRunsToTheSeal := by
  refine ⟨fun s hup => ⟨exec_bufferHandback_none hup, fun i b result rest hwaiting => ?_⟩, fun s i hup => ?_⟩
  · intro sl taken becomes
    have moved : ∀ {u}, taken.takeHandback ⟨i, b, result⟩ = u → exec .bufferHandback s = .next u := fun h =>
      (exec_bufferHandback hup hwaiting).trans (congrArg _ h)
    refine ⟨fun hfree => moved (State.takeHandback_of_free (s := taken) hfree), fun hused hremoved hheld hqueued => ?_,
      fun records hused hbuffer => ⟨fun hdone => ?_, fun hfailed => ?_⟩, fun summary hused hbuffer hwritten => ?_⟩
    · subst hremoved
      exact moved (State.takeHandback_removed (s := taken) hused hheld hqueued)
    · subst hdone
      exact moved (State.takeHandback_done (s := taken) hused hbuffer)
    · subst hfailed
      exact moved (State.takeHandback_failed (s := taken) hused hbuffer)
    · exact moved ((State.takeHandback_summary (s := taken) hused hbuffer hwritten).trans (State.sealed_eq _ _ _ _ rfl))
  · intro sl
    refine ⟨fun hclosing hstep => ⟨fun hnone => ?_, fun b records hfilling => ?_⟩,
      fun x rest hclosing hdrain hqueue hfree0 hfree1 htrack =>
        exec_summaryBuild_of_due hup (State.summaryDue_iff.mpr ⟨hclosing, hdrain, hqueue, hfree0, hfree1⟩) htrack,
      exec_closingPad_of_not_due hup, fun hnot => exec_summaryBuild_of_not_due hup fun hdue => ?_,
      fun hnot => exec_summaryBuild_of_not_due hup fun hdue => ?_⟩
    · exact exec_closingPad_none hup hclosing hstep (Option.eq_none_iff_forall_ne_some.mpr fun x => hnone x.1 x.2)
    · have hpad := exec_closingPad_some hup hclosing hstep hfilling
      exact ⟨fun block hnext => hpad.trans (congrArg _ (State.padded_of_some hnext)),
        fun hnext => hpad.trans (congrArg _ (State.padded_of_none hnext))⟩
    · obtain ⟨hclosing, hdrain, _⟩ := State.summaryDue_iff.mp hdue
      exact hnot.elim (absurd hclosing) (absurd hdrain)
    · obtain ⟨_, _, hqueue, hfree0, hfree1⟩ := State.summaryDue_iff.mp hdue
      obtain ⟨e, he, hslot⟩ | hheld | hheld := hnot
      · exact hqueue e he hslot
      · exact hheld hfree0
      · exact hheld hfree1

end Sys2Proof.Machine
end

section
/-! PROOFS. The energy state: its table, its change with the emergency seal, COUNTER SET and calibration (R108, R121 to
R123, R151, R152). -/

namespace Sys2Proof.Machine

/-! ### The table of R151 -/

/-- A value lies below a threshold when no known value reaches it (R118). -/
theorem below_iff (v : Option Int) (threshold : Int) : below v threshold = true ↔ ∀ x, v = some x → x < threshold := by
  cases v <;> simp [below, atLeast]

namespace State
variable {s : State}

/-- The condition of the LOW row: the SoC of a seeded counter under the reserve, or the lower cell under the low level
(R151). -/
def EnergyLow (s : State) : Prop :=
  (s.mon.conv.seeded = true ∧ s.mon.conv.soc < s.mon.energy.reserve) ∨
    ∀ v, s.lowerCell = some v → v < s.mon.energy.lowCell

theorem energyLow_iff (s : State) :
    (s.mon.conv.seeded && decide (s.mon.conv.soc < s.mon.energy.reserve) ||
      below s.lowerCell s.mon.energy.lowCell) = true ↔ s.EnergyLow := by
  simp only [EnergyLow, Bool.or_eq_true, Bool.and_eq_true, decide_eq_true_eq, below_iff]

theorem computeEnergy_of_warning (h : s.mon.prot.earlyWarning = true) : s.computeEnergy = .critical := if_pos h

section
variable (hwarning : s.mon.prot.earlyWarning = false)
include hwarning

theorem computeEnergy_of_input (h : s.mon.chg.inputPresent = true) : s.computeEnergy = .supplied := by
  simp [computeEnergy, hwarning, h]

variable (hinput : s.mon.chg.inputPresent = false)
include hinput

theorem computeEnergy_of_low (h : s.EnergyLow) : s.computeEnergy = .low := by
  simp only [computeEnergy, hwarning, hinput, energyLow_iff, h, Bool.false_eq_true, reduceIte]

theorem computeEnergy_of_not_low (h : ¬s.EnergyLow) : s.computeEnergy = .battery := by
  simp only [computeEnergy, hwarning, hinput, energyLow_iff, h, Bool.false_eq_true, reduceIte]

end

/-- The rows of R151 in order, each under the failure of those before it. -/
theorem computeEnergy_rows (s : State) :
    (s.mon.prot.earlyWarning = true ∧ s.computeEnergy = .critical) ∨
    (s.mon.prot.earlyWarning = false ∧ s.mon.chg.inputPresent = true ∧ s.computeEnergy = .supplied) ∨
    (s.mon.prot.earlyWarning = false ∧ s.mon.chg.inputPresent = false ∧ s.EnergyLow ∧ s.computeEnergy = .low) ∨
    (s.mon.prot.earlyWarning = false ∧ s.mon.chg.inputPresent = false ∧ ¬s.EnergyLow ∧ s.computeEnergy = .battery) := by
  cases hwarning : s.mon.prot.earlyWarning
  · cases hinput : s.mon.chg.inputPresent
    · by_cases hlow : s.EnergyLow
      · exact .inr (.inr (.inl ⟨rfl, rfl, hlow, computeEnergy_of_low hwarning hinput hlow⟩))
      · exact .inr (.inr (.inr ⟨rfl, rfl, hlow, computeEnergy_of_not_low hwarning hinput hlow⟩))
    · exact .inr (.inl ⟨rfl, rfl, computeEnergy_of_input hwarning hinput⟩)
  · exact .inl ⟨rfl, computeEnergy_of_warning hwarning⟩

/-- The rows exclude each other, so each state holds exactly in its own row (R151). -/
theorem computeEnergy_iff (s : State) :
    (s.computeEnergy = .critical ↔ s.mon.prot.earlyWarning = true) ∧
    (s.computeEnergy = .supplied ↔ s.mon.prot.earlyWarning = false ∧ s.mon.chg.inputPresent = true) ∧
    (s.computeEnergy = .low ↔ s.mon.prot.earlyWarning = false ∧ s.mon.chg.inputPresent = false ∧ s.EnergyLow) ∧
    (s.computeEnergy = .battery ↔ s.mon.prot.earlyWarning = false ∧ s.mon.chg.inputPresent = false ∧ ¬s.EnergyLow) := by
  rcases s.computeEnergy_rows with ⟨hw, he⟩ | ⟨hw, hi, he⟩ | ⟨hw, hi, hl, he⟩ | ⟨hw, hi, hl, he⟩
  · simp [hw, he]
  · simp [hw, hi, he]
  · simp [hw, hi, hl, he]
  · simp [hw, hi, hl, he]

theorem lowerCell_of_some {a b : Int} (h1 : s.latest .cell1 = some a) (h2 : s.latest .cell2 = some b) :
    s.lowerCell = some (min a b) := by rw [lowerCell, h1, h2]

theorem lowerCell_of_none (h : s.latest .cell1 = none ∨ s.latest .cell2 = none) : s.lowerCell = none := by
  obtain h | h := h
  · rw [lowerCell, h]
  · rw [lowerCell, h]; cases s.latest .cell1 <;> rfl

/-! ### A change of the energy state (R152) and the emergency seal (R108) -/

/-- The energy state recomputed to a new one, with its notice. -/
def energyChanged (s : State) (cause : EnergyCause) : State :=
  ({ s with mon.energy.state := s.computeEnergy } : State).notify
    (.energyState s.computeEnergy s.mon.energy.state cause s.mon.conv.soc s.mon.conv.seeded s.lowerCell s.monNow)

/-- A recomputed energy state, by its change: none, an entry to CRITICAL while the path domain is up, or another. -/
theorem settleEnergy_eq (s : State) (cause : EnergyCause) :
    s.settleEnergy cause =
      if s.computeEnergy = s.mon.energy.state then s
      else if s.computeEnergy = .critical ∧ s.pathUp = true then (s.energyChanged cause).emergencySeal
      else s.energyChanged cause := by
  obtain ⟨_, _, _, _, _, _, _, _, hup, _⟩ := ({ s with mon.energy.state := s.computeEnergy } : State).notify_frame
    (.energyState s.computeEnergy s.mon.energy.state cause s.mon.conv.soc s.mon.conv.seeded s.lowerCell s.monNow)
  have hpathUp : (s.energyChanged cause).pathUp = s.pathUp := hup
  rw [← hpathUp]; rfl

theorem settleEnergy_of_same {cause : EnergyCause} (h : s.computeEnergy = s.mon.energy.state) :
    s.settleEnergy cause = s := by rw [settleEnergy_eq, if_pos h]

section
variable {cause : EnergyCause} (hchange : s.computeEnergy ≠ s.mon.energy.state)
include hchange

theorem settleEnergy_of_critical (h : s.computeEnergy = .critical) (hup : s.pathUp = true) :
    s.settleEnergy cause = (s.energyChanged cause).emergencySeal := by
  rw [settleEnergy_eq, if_neg hchange, if_pos ⟨h, hup⟩]

theorem settleEnergy_of_not_sealing (h : s.computeEnergy ≠ .critical ∨ s.pathUp = false) :
    s.settleEnergy cause = s.energyChanged cause := by
  have hnot : ¬(s.computeEnergy = .critical ∧ s.pathUp = true) := fun ⟨hcritical, hup⟩ =>
    h.elim (absurd hcritical) fun hdown => Bool.false_ne_true (hdown.symm.trans hup)
  rw [settleEnergy_eq, if_neg hchange, if_neg hnot]

end

theorem emergencySeal_eq (s : State) : s.emergencySeal = (((s.sealSlot 0).sealSlot 1).sealSlot 2).sealSlot 3 := rfl

theorem sealSlot_of_closing {i : Fin 4} (h : (s.slot i).state = .closing) :
    s.sealSlot i = s.onSlot i fun sl => sl.cutOwed s.path.window.frameCounter := by rw [sealSlot, h]

/-! The recomputation does not read the number of requests outstanding: between a request's taking and its answer it is
the recomputation before the request. -/

theorem owing_sealSlot (s : State) (i : Fin 4) : s.owing.sealSlot i = (s.sealSlot i).owing := by
  cases h : (s.slot i).state with
  | free => rw [sealSlot_of_free h, sealSlot_of_free (s := s.owing) h]
  | armed => rw [sealSlot_of_armed h, sealSlot_of_armed (s := s.owing) h, owing_notify]; rfl
  | recording => rw [sealSlot_of_recording h, sealSlot_of_recording (s := s.owing) h]; rfl
  | closing => rw [sealSlot_of_closing h, sealSlot_of_closing (s := s.owing) h]; rfl

theorem owing_emergencySeal (s : State) : s.owing.emergencySeal = s.emergencySeal.owing := by
  simp only [emergencySeal_eq, owing_sealSlot]

theorem owing_energyChanged (s : State) (cause : EnergyCause) :
    s.owing.energyChanged cause = (s.energyChanged cause).owing :=
  owing_notify { s with mon.energy.state := s.computeEnergy } _

theorem owing_settleEnergy (s : State) (cause : EnergyCause) :
    s.owing.settleEnergy cause = (s.settleEnergy cause).owing := by
  rw [settleEnergy_eq, settleEnergy_eq, owing_energyChanged, owing_emergencySeal, apply_ite owing, apply_ite owing]
  rfl

end State

/-! ### Calibration (R123) and COUNTER SET (R122) -/

/-- The model's test of what a calibration hands on is the failure of "SoC and seeded flag as before" (R121, R123). -/
theorem State.calibrate_eq (s : State) (q : Int) {u : State}
    (hu : { s with mon.conv.charge := q, mon.conv.remainder := 0, mon.conv.seeded := true } = u) :
    s.calibrate q = if u.mon.conv.soc = s.mon.conv.soc ∧ s.mon.conv.seeded = true then u else u.settleEnergy .soc := by
  subst hu
  rw [← ite_not]
  refine if_congr ?_ rfl rfl
  rw [Decidable.not_and_iff_not_or_not, Bool.not_eq_true]; rfl

theorem checkCounter_iff (a : CounterArgs) :
    checkCounter a = true ↔ 100 ≤ a.capacity ∧ a.capacity ≤ 20000 ∧ a.seed ≤ a.capacity * 1000 ∧ a.reserve ≤ 500 ∧
      3000 ≤ a.lowCell ∧ a.lowCell ≤ 3800 := by
  simp [checkCounter, within, and_assoc]

section
variable {s : State} (htakes : s.Takes) (tag : Byte) {a : CounterArgs}
include htakes

theorem exec_counterSet_taken (h : checkCounter a = true) {u : State}
    (hu : { s with
      mon.conv.capacity := a.capacity, mon.conv.reserve := a.reserve, mon.conv.lowCell := a.lowCell
      mon.conv.charge := a.seed, mon.conv.remainder := 0, mon.conv.seeded := true
      mon.energy.reserve := a.reserve, mon.energy.lowCell := a.lowCell } = u) :
    exec (.counterSet tag a) s = .next ((u.settleEnergy .levels).replied tag .ok .none) := by
  obtain ⟨_, _, _, _, _, _, _, _, _, _, _, _, hpathUp, _⟩ := u.settleEnergy_frame .levels
  refine State.exec_of_answer htakes rfl ?_ (hpathUp.trans (hu ▸ htakes.1))
  rw [← State.owing_settleEnergy, ← hu]
  exact if_pos h

theorem exec_counterSet_refused (h : ¬checkCounter a = true) :
    exec (.counterSet tag a) s = .next (s.replied tag .badArg .none) :=
  State.exec_of_refusal htakes rfl (if_neg h)

end

/-- Settles O54: the table by its rows, the change by whether it seals, the seal of a slot by the state it finds, and
calibration and COUNTER SET by one recomputation each. -/
theorem energyStateFollowsItsTable : Obligations.EnergyStateFollowsItsTable := by
  refine ⟨fun s => ?_, fun s cause => ⟨State.settleEnergy_of_same, fun hchange =>
      ⟨State.settleEnergy_of_critical hchange, State.settleEnergy_of_not_sealing hchange⟩⟩,
    fun s i => ⟨State.sealSlot_of_free, State.sealSlot_of_closing⟩, fun s q => s.calibrate_eq q rfl,
    fun s tag a htakes => ?_⟩
  · obtain ⟨hcritical, hsupplied, hlow, hbattery⟩ := s.computeEnergy_iff
    exact ⟨hcritical, hsupplied, hlow, hbattery, fun _ _ => State.lowerCell_of_some, State.lowerCell_of_none⟩
  · intro good
    have hgood : checkCounter a = true ↔ good := checkCounter_iff a
    exact ⟨fun h => exec_counterSet_taken htakes tag (hgood.mpr h) rfl,
      fun h => exec_counterSet_refused htakes tag (mt hgood.mp h)⟩

end Sys2Proof.Machine
end

section
/-! PROOFS. What the part holds after POR, POWER ON RESET, and the end of a path reset (R78, R110, R154 to R156, R164,
R168). -/

namespace Sys2Proof.Machine

theorem reset_slot (i : Fin 4) : State.reset.slot i = Slot.freed := Vector.getElem_replicate _

/-- Settles O4: each record of the reset state is its block's value after POR or after a path reset, the slots being four
that are FREE. -/
theorem resetLeavesTheSpecsValues : Obligations.ResetLeavesTheSpecsValues :=
  ⟨rfl, rfl, rfl, rfl, rfl, reset_slot, rfl, rfl, rfl, rfl, rfl, rfl⟩

/-- After a path reset the class pointer stands at CREDIT, with credit pending, so that the first notice waits behind the
CREDIT cell (R156, R164, R165). -/
theorem Link.choose_offer_afterReset (n : Notice) (b : ReadBuffer) :
    (Link.afterReset.offer n).choose b =
      { Link.afterReset with notices := [n], creditPending := false, pointer := .notice, lane := some (.credit 0) } := rfl

/-- A card-detect that is high as the path domain leaves reset starts the debounce as a rise does (R78). -/
theorem Card.seated_afterReset (seated : Bool) (t : Time) :
    (if seated = true then { Card.afterReset with debounce := some t } else Card.afterReset) =
      { Card.afterReset with debounce := if seated = true then some t else none } := by
  cases seated
  · rfl
  · rfl

/-- The end of a path reset, told of the state at that moment, whose link and card are those a path reset left. -/
theorem exec_pathResetEnd {s u : State} {d : Time} (hreset : s.mon.energy.resetEnd = some d)
    (harrives : s.nothingEarlier (s.monLeft d) = true) (hu : s.elapse (s.monLeft d) = u)
    (hcard : u.path.card = Card.afterReset) (hlink : u.path.link = Link.afterReset) :
    exec .pathResetEnd s = .next
      { u with
        mon.energy.resetEnd := none
        mon.energy.retained := []
        path.link.notices := [.pathReady u.mon.energy.cause u.mon.energy.retained u.mon.energy.state u.mon.chg.state]
        path.link.creditPending := false
        path.link.pointer := .notice
        path.link.lane := some (.credit 0)
        path.card.debounce := if u.pins.cardDetect then some (u.now + 50000) else none } := by
  have hexec : exec .pathResetEnd s = .next (s.expiry (s.mon.energy.resetEnd.map s.monLeft) _) := rfl
  rw [hexec, hreset, Option.map_some, State.expiry_of_nothingEarlier harrives, hu]
  simp only [State.chooseUnit, State.onLink, State.onCard, State.onEnergy, hlink, hcard, Link.choose_offer_afterReset,
    Card.seated_afterReset]
  rfl

/-- Settles O6: the path domain that leaves reset is the one a path reset left, so PATH READY finds the notice queue empty
and the arbiter a free lane. -/
theorem powerOnResetAndPathResetEnd : Obligations.PowerOnResetAndPathResetEnd := by
  refine ⟨fun s => rfl, fun s d hreset hpath harrives => ?_⟩
  obtain ⟨_, hpins, _, _, _, hcard, hlink, hchg, henergy, _⟩ := s.elapse_frame (s.monLeft d)
  rw [hpath] at hcard hlink
  rw [← hpins, ← henergy, ← hchg]
  exact exec_pathResetEnd hreset harrives rfl hcard hlink

end Sys2Proof.Machine
end

section
/-! PROOFS. The coulomb counter (R120), and what calibrates it: a charger that ends in DONE (R123, R142). -/

namespace Sys2Proof.Machine

/-! ### One result counted -/

namespace Converter
variable (c : Converter) (i : Int)

theorem count_eq :
    c.count i =
      { c with
        charge := max 0 (min ((c.capacity : Int) * 1000) (c.charge + (c.remainder + i * periodUs c.rate) / 3600000))
        remainder := c.remainder + i * periodUs c.rate - (c.remainder + i * periodUs c.rate) / 3600000 * 3600000 } := by
  have hfloor : (c.remainder + i * periodUs c.rate).fdiv Config.chargeUnit =
      (c.remainder + i * periodUs c.rate) / 3600000 :=
    Int.fdiv_eq_ediv_of_nonneg _ (by decide)
  simp only [count, hfloor, clamp_eq_max_min _ 0 ((c.capacity : Int) * 1000) (by omega)]
  rfl

theorem count_remainder_bounds : 0 ≤ (c.count i).remainder ∧ (c.count i).remainder ≤ 3599999 := by
  rw [count_eq]; dsimp only; omega

theorem count_charge_bounds : 0 ≤ (c.count i).charge ∧ (c.count i).charge ≤ (c.capacity : Int) * 1000 := by
  rw [count_eq]; dsimp only; omega

/-- A result in its range over a period of at most 4000 µs moves at most 37 µAh (R120). -/
theorem count_step_bounds {r : Int} {period : Nat} (hlow : -32767 ≤ i) (hhigh : i ≤ 32767) (hr : 0 ≤ r)
    (hr' : r ≤ 3599999) (hperiod : period ≤ 4000) :
    -37 ≤ (r + i * period) / 3600000 ∧ (r + i * period) / 3600000 ≤ 37 := by
  have hup : i * period ≤ 32767 * 4000 := by nlinarith
  have hdown : -32767 * 4000 ≤ i * period := by nlinarith
  omega

/-- A charge set from a known point (R123). -/
def calibrated (charge : Int) : Converter := { c with charge := charge, remainder := 0, seeded := true }

end Converter

/-! ### What changes the count otherwise -/

theorem Charger.enter_state (c : Charger) (new : ChargerState) (now : Time) (causes : HoldCauses) :
    (c.enter new now causes).state = new := by cases new <;> rfl

namespace State
variable (s : State)

theorem calibrate_conv (q : Int) : (s.calibrate q).mon.conv = s.mon.conv.calibrated q := by
  rw [s.calibrate_eq q rfl]
  split
  · rfl
  · obtain ⟨_, _, _, _, _, _, hconv, _⟩ := settleEnergy_frame { s with mon.conv := s.mon.conv.calibrated q } .soc
    exact hconv

/-- The charge done: the charger stands in DONE, and the counter at full (R123, R142). -/
theorem moveCharger_done (h : s.mon.chg.state ≠ .done) (cause : ChargerCause) (causes : HoldCauses) :
    (s.moveCharger .done cause causes).mon.chg.state = .done ∧
    (s.moveCharger .done cause causes).mon.conv = s.mon.conv.calibrated ((s.mon.conv.capacity : Int) * 1000) := by
  unfold moveCharger
  rw [if_neg h]
  dsimp only
  rw [if_pos rfl, calibrate_conv]
  constructor
  · simp [settleDemand, Charger.settleSetpoint, Charger.enter_state]
  · simp

/-! ### The termination count (R141) -/

section
variable {v : State} {c : Charger} {i : Int} (hchg : v.mon.chg = c)
include hchg

theorem chargerCurrent_of_not_cv (h : c.state ≠ .cv) : v.chargerCurrent i = v := by
  rw [chargerCurrent, hchg, if_neg h]

variable (hcv : c.state = .cv)
include hcv

theorem chargerCurrent_of_cv {n : Nat}
    (hn : (if v.mon.prot.switches.charge = true ∧ i < c.settings.iterm then c.lowCount + 1 else 0) = n) :
    v.chargerCurrent i =
      if 10 ≤ n then ({ v with mon.chg.lowCount := n } : State).moveCharger .done .terminated .empty
      else { v with mon.chg.lowCount := n } := by
  subst hchg
  have hlow : (v.mon.prot.switches.charge && decide (i < v.mon.chg.settings.iterm)) = true ↔
      v.mon.prot.switches.charge = true ∧ i < v.mon.chg.settings.iterm := by simp
  rw [chargerCurrent, if_pos hcv]
  simp only [onChg, hlow, hn]
  rfl

theorem chargerCurrent_of_not_low (hlow : ¬(v.mon.prot.switches.charge = true ∧ i < c.settings.iterm)) :
    v.chargerCurrent i = { v with mon.chg.lowCount := 0 } :=
  chargerCurrent_of_cv hchg hcv (if_neg hlow)

variable (hlow : v.mon.prot.switches.charge = true ∧ i < c.settings.iterm)
include hlow

theorem chargerCurrent_of_few (hfew : c.lowCount + 1 < 10) :
    v.chargerCurrent i = { v with mon.chg.lowCount := c.lowCount + 1 } :=
  (chargerCurrent_of_cv hchg hcv (if_pos hlow)).trans (if_neg (Nat.not_le.mpr hfew))

theorem chargerCurrent_of_tenth (htenth : 10 ≤ c.lowCount + 1) :
    v.chargerCurrent i = ({ v with mon.chg.lowCount := c.lowCount + 1 } : State).moveCharger .done .terminated .empty :=
  (chargerCurrent_of_cv hchg hcv (if_pos hlow)).trans (if_pos htenth)

end

/-- A current result at the charger leaves the counter, or ends the charge (R123, R141). -/
theorem chargerCurrent_conv (v : State) (i : Int) :
    (v.chargerCurrent i).mon.conv = v.mon.conv ∨
    (v.mon.chg.state = .cv ∧ 10 ≤ v.mon.chg.lowCount + 1 ∧ (v.chargerCurrent i).mon.chg.state = .done ∧
      (v.chargerCurrent i).mon.conv = v.mon.conv.calibrated ((v.mon.conv.capacity : Int) * 1000)) := by
  by_cases hcv : v.mon.chg.state = .cv
  · by_cases hlow : v.mon.prot.switches.charge = true ∧ i < v.mon.chg.settings.iterm
    · by_cases htenth : 10 ≤ v.mon.chg.lowCount + 1
      · rw [chargerCurrent_of_tenth rfl hcv hlow htenth]
        have hnot : ({ v with mon.chg.lowCount := v.mon.chg.lowCount + 1 } : State).mon.chg.state ≠ .done := by
          simp [hcv]
        exact .inr ⟨hcv, htenth, moveCharger_done _ hnot _ _⟩
      · rw [chargerCurrent_of_few rfl hcv hlow (Nat.not_le.mp htenth)]; exact .inl rfl
    · rw [chargerCurrent_of_not_low rfl hcv hlow]; exact .inl rfl
  · rw [chargerCurrent_of_not_cv rfl hcv]; exact .inl rfl

end State

end Sys2Proof.Machine
end

section
/-! PROOFS. CURRENT_RESULT and CURRENT RATE (R111 to R113, R117, R120, R121, R124, R126, R141). -/

namespace Sys2Proof.Machine

/-! ### The end of a result period (R113) -/

theorem Protection.evalCurrent_eq (p : Protection) (held : Int) (now : Time) :
    p.evalCurrent held now =
      { p with
        doc := if p.switches.discharge then
            (if held ≤ -(p.settings.docMa : Int) then some (p.doc.getD (now + BitVec.ofNat 32 p.settings.docMs)) else none)
          else p.doc
        coc := if p.switches.charge then
            (if (p.settings.cocMa : Int) ≤ held then some (p.coc.getD (now + BitVec.ofNat 32 p.settings.cocMs)) else none)
          else p.coc } := by
  simp only [evalCurrent, evaluate, decide_eq_true_eq, later]

/-- A current result held in the range of its channel (R111). -/
def heldCurrent (milliamps : Int) : Int := max (-32767) (min 32767 milliamps)

namespace State

/-- The rate that the end of a result period begun in one state leaves in another (R113). -/
def rated (s u : State) : State :=
  match s.mon.conv.pendingRate with
  | none => u
  | some r =>
    { u with
      mon.conv.rate := r, mon.conv.pendingRate := none
      mon.conv.settling := if r = s.mon.conv.rate then u.mon.conv.settling else 2 }

theorem rated_parts (s u : State) :
    (s.rated u).mon.conv.charge = u.mon.conv.charge ∧ (s.rated u).mon.conv.remainder = u.mon.conv.remainder ∧
    (s.rated u).mon.chg = u.mon.chg := by
  unfold rated; split
  · exact ⟨rfl, rfl, rfl⟩
  · exact ⟨rfl, rfl, rfl⟩

theorem onConv_takeRate {s u : State} (hrate : u.mon.conv.rate = s.mon.conv.rate)
    (hpending : u.mon.conv.pendingRate = s.mon.conv.pendingRate) : u.onConv Converter.takeRate = s.rated u := by
  unfold rated
  cases h : s.mon.conv.pendingRate with
  | none => simp only [onConv, Converter.takeRate, hpending, h]
  | some r =>
    by_cases hsame : r = s.mon.conv.rate
    · simp only [onConv, Converter.takeRate, hpending, hrate, h, hsame, reduceIte]
    · simp only [onConv, Converter.takeRate, hpending, hrate, h, hsame, reduceIte]

/-! ### A result that is taken -/

/-- The result in the history and in the charge count (R117, R120). -/
def counted (s : State) (held : Int) : State :=
  { s with
    mon.conv :=
      { s.mon.conv.count held with
        histories.current := (⟨held, s.monNow⟩ :: s.mon.conv.histories.current).take 4 } }

/-- With it the energy state, after a changed SoC (R121). -/
def settled (s : State) (held : Int) : State :=
  if (s.counted held).mon.conv.soc = s.mon.conv.soc then s.counted held else (s.counted held).settleEnergy .soc

theorem countCharge_enter (s : State) (held : Int) : (s.enter .current held).countCharge held = s.settled held :=
  ite_not ((s.counted held).mon.conv.soc = s.mon.conv.soc) ((s.counted held).settleEnergy .soc) (s.counted held)

theorem settled_parts (s : State) (held : Int) :
    (s.settled held).mon.conv = (s.counted held).mon.conv ∧ (s.settled held).mon.prot = s.mon.prot ∧
    (s.settled held).mon.chg = s.mon.chg ∧ (s.settled held).monNow = s.monNow := by
  unfold settled; split
  · exact ⟨rfl, rfl, rfl, rfl⟩
  · obtain ⟨_, _, _, _, _, _, hconv, hprot, hchg, _, _, _, _, hnow⟩ := (s.counted held).settleEnergy_frame .soc
    exact ⟨hconv, hprot, hchg, hnow⟩

/-- With it DOC and COC, each judged while its switch is on (R124, R126). -/
def judged (s : State) (held : Int) : State :=
  { s.settled held with
    mon.prot.doc := if s.mon.prot.switches.discharge then
        (if held ≤ -(s.mon.prot.settings.docMa : Int) then
            some (s.mon.prot.doc.getD (s.monNow + BitVec.ofNat 32 s.mon.prot.settings.docMs))
          else none)
      else s.mon.prot.doc
    mon.prot.coc := if s.mon.prot.switches.charge then
        (if (s.mon.prot.settings.cocMa : Int) ≤ held then
            some (s.mon.prot.coc.getD (s.monNow + BitVec.ofNat 32 s.mon.prot.settings.cocMs))
          else none)
      else s.mon.prot.coc }

theorem takeCurrent_eq (s : State) (held : Int) : s.takeCurrent held = (s.judged held).chargerCurrent held := by
  obtain ⟨_, hprot, _, hnow⟩ := s.settled_parts held
  rw [takeCurrent, countCharge_enter]
  refine congrArg (fun u : State => u.chargerCurrent held) ?_
  simp only [onProt, Protection.evalCurrent_eq, judged, hprot, hnow]

theorem judged_parts (s : State) (held : Int) :
    (s.judged held).mon.conv = (s.counted held).mon.conv ∧
    (s.judged held).mon.prot.switches = s.mon.prot.switches ∧ (s.judged held).mon.chg = s.mon.chg := by
  obtain ⟨hconv, hprot, hchg, _⟩ := s.settled_parts held
  have hswitches : (s.settled held).mon.prot.switches = s.mon.prot.switches := by rw [hprot]
  exact ⟨hconv, hswitches, hchg⟩

/-! ### CURRENT_RESULT -/

section
variable {s : State} (milliamps : Int)

theorem exec_currentResult_settling (h : 0 < s.mon.conv.settling) : exec (.currentResult milliamps) s = .next
    (s.rated { s with mon.conv.settling := s.mon.conv.settling - 1 }) := by
  have hexec : exec (.currentResult milliamps) s = .next (onConv (ite _ _ _) Converter.takeRate) := rfl
  rw [hexec, if_pos h]
  exact congrArg Host.Outcome.next (onConv_takeRate rfl rfl)

theorem exec_currentResult_taken (h : s.mon.conv.settling = 0) : exec (.currentResult milliamps) s = .next
    (s.rated ((s.judged (heldCurrent milliamps)).chargerCurrent (heldCurrent milliamps))) := by
  have hexec : exec (.currentResult milliamps) s = .next (onConv (ite _ _ _) Converter.takeRate) := rfl
  have hheld : holdResult .current milliamps = heldCurrent milliamps := clamp_eq_max_min _ _ _ (by decide)
  rw [hexec, if_neg (by omega), hheld, takeCurrent_eq]
  generalize heldCurrent milliamps = held
  obtain ⟨hconv, _, _⟩ := s.judged_parts held
  refine congrArg Host.Outcome.next ?_
  rcases (s.judged held).chargerCurrent_conv held with hsame | ⟨_, _, _, hfull⟩
  · exact onConv_takeRate (by rw [hsame, hconv]; rfl) (by rw [hsame, hconv]; rfl)
  · exact onConv_takeRate (by rw [hfull, hconv]; rfl) (by rw [hfull, hconv]; rfl)

end
end State

/-- Settles O51: the count in closed form; and a result that is taken leaves its count standing unless the charger ends
the charge with it. -/
theorem coulombCounterIsExact : Obligations.CoulombCounterIsExact := by
  refine ⟨rfl, rfl, rfl, rfl, fun c i => ?_, fun s milliamps => ?_⟩
  · obtain ⟨hr, hr'⟩ := c.count_remainder_bounds i
    obtain ⟨hq, hq'⟩ := c.count_charge_bounds i
    exact ⟨c.count_eq i, hr, hr', hq, hq', Converter.count_step_bounds i⟩
  by_cases hsettling : s.mon.conv.settling = 0
  · refine ⟨_, State.exec_currentResult_taken milliamps hsettling, fun h => by omega, ?_⟩
    obtain ⟨hconv, _, hchg⟩ := s.judged_parts (heldCurrent milliamps)
    obtain ⟨hcharge, hremainder, hstate⟩ :=
      s.rated_parts ((s.judged (heldCurrent milliamps)).chargerCurrent (heldCurrent milliamps))
    rw [hcharge, hremainder, hstate]
    rcases State.chargerCurrent_conv _ _ with hsame | ⟨hcv, htenth, hdone, hfull⟩
    · rw [hsame, hconv]
      exact ⟨fun _ _ => ⟨rfl, rfl⟩, fun _ _ => .inl ⟨rfl, rfl⟩⟩
    · rw [hchg] at hcv htenth
      rw [hfull, hconv]
      exact ⟨fun _ hnot => hnot.elim (absurd hcv) fun hfew => by omega, fun _ _ => .inr ⟨hdone, rfl, rfl⟩⟩
  · have hsettling : 0 < s.mon.conv.settling := Nat.pos_of_ne_zero hsettling
    obtain ⟨hcharge, hremainder, _⟩ := s.rated_parts { s with mon.conv.settling := s.mon.conv.settling - 1 }
    exact ⟨_, State.exec_currentResult_settling milliamps hsettling, fun _ => ⟨hcharge, hremainder⟩,
      fun h => by omega, fun h => by omega⟩

/-! ### CURRENT RATE (R113) -/

theorem checkRate_iff (rate : Nat) : checkRate rate = true ↔ rate = 32 ∨ rate = 64 ∨ rate = 128 ∨ rate = 256 := by
  simp [checkRate, or_assoc]

section
variable {s : State} (htakes : s.Takes) (tag : Byte) {rate : Nat}
include htakes

theorem exec_currentRate_taken (h : checkRate rate = true) :
    exec (.currentRate tag rate) s = .next ({ s with mon.conv.pendingRate := some rate }.replied tag .ok .none) :=
  State.exec_of_answer htakes rfl (if_pos h) htakes.1

theorem exec_currentRate_refused (h : ¬checkRate rate = true) :
    exec (.currentRate tag rate) s = .next (s.replied tag .badArg .none) :=
  State.exec_of_refusal htakes rfl (if_neg h)

end

/-- Settles O52: a result that is taken is State.judged, and then the charger by the branches of its termination count. -/
theorem currentResultIsTaken : Obligations.CurrentResultIsTaken := by
  refine ⟨fun s milliamps => ?_, fun s tag rate htakes => ⟨fun h => ?_, fun h32 h64 h128 h256 => ?_⟩⟩
  · refine ⟨State.exec_currentResult_settling milliamps, fun hsettling => ?_⟩
    intro counted u judged low
    have htaken := State.exec_currentResult_taken milliamps hsettling
    obtain ⟨_, hswitches, hchg⟩ := s.judged_parts (heldCurrent milliamps)
    have hlow : (s.judged (heldCurrent milliamps)).mon.prot.switches.charge = true ∧
        heldCurrent milliamps < s.mon.chg.settings.iterm ↔ low := by rw [hswitches]; rfl
    refine ⟨fun hcv => ?_, fun hcv hnot => ?_, fun hcv his hfew => ?_, fun hcv his htenth => ?_⟩
    · rwa [State.chargerCurrent_of_not_cv hchg hcv] at htaken
    · rwa [State.chargerCurrent_of_not_low hchg hcv (mt hlow.mp hnot)] at htaken
    · rwa [State.chargerCurrent_of_few hchg hcv (hlow.mpr his) hfew] at htaken
    · rwa [State.chargerCurrent_of_tenth hchg hcv (hlow.mpr his) htenth] at htaken
  · exact exec_currentRate_taken htakes tag ((checkRate_iff rate).mpr h)
  · refine exec_currentRate_refused htakes tag (mt (checkRate_iff rate).mp ?_)
    rintro (h | h | h | h)
    · exact h32 h
    · exact h64 h
    · exact h128 h
    · exact h256 h

end Sys2Proof.Machine
end

section
/-! PROOFS. VOLTAGE_RESULT, the scan and SCAN LIST (R114 to R119). -/

namespace Sys2Proof.Machine

/-! ### A result in its range and its history -/

theorem channelRange_le (c : Channel) : (channelRange c).1 ≤ (channelRange c).2 := by cases c <;> decide

theorem holdResult_eq (c : Channel) (value : Int) :
    holdResult c value = max (channelRange c).1 (min (channelRange c).2 value) :=
  clamp_eq_max_min _ _ _ (channelRange_le c)

section
variable {s : State} (value : Int)

theorem exec_voltageResult_discarded (h : 0 < s.mon.conv.scanDiscards) : exec (.voltageResult value) s = .next
    { s with mon.conv.scanDiscards := s.mon.conv.scanDiscards - 1 } :=
  congrArg Host.Outcome.next (if_pos h)

theorem exec_voltageResult_taken {e : ScanEntry} {held : Int} (h : s.mon.conv.scanDiscards = 0)
    (hentry : s.mon.conv.scanList[s.mon.conv.scanIndex]? = some e) (hheld : holdResult e.channel value = held) :
    exec (.voltageResult value) s = .next ((s.enter e.channel held).handOn e.channel held).endVisit := by
  have hexec : exec (.voltageResult value) s = execVoltageResult value s := rfl
  rw [hexec, execVoltageResult, if_neg (by omega), hentry, ← hheld]

end

/-! ### The end of a visit (R114, R116) -/

theorem scansChannel_iff (list : List ScanEntry) (c : Channel) :
    scansChannel list c = true ↔ ∃ e ∈ list, e.channel = c := by
  simp [scansChannel]

theorem dropped_iff (old new : List ScanEntry) (c : Channel) :
    dropped old new c = true ↔ (∃ e ∈ old, e.channel = c) ∧ ∀ e ∈ new, e.channel ≠ c := by
  simp [dropped, scansChannel]

theorem Histories.drop_get (h : Histories) (old new : List ScanEntry) {c : Channel} (hc : c ≠ .current) :
    (h.drop old new).get c = if dropped old new c then [] else h.get c := by
  cases c with
  | current => exact absurd rfl hc
  | _ => rfl

namespace State

theorem endVisit_of_none {s : State} (h : s.mon.conv.pendingScan = none) :
    s.endVisit =
      s.onConv fun c => c.visit (if c.scanIndex + 1 < c.scanList.length then c.scanIndex + 1 else 0) := by
  rw [endVisit, h]

/-- The scan list that takes effect at the end of a visit, with its first visit begun (R114, R116). -/
def rescanned (s : State) (list : List ScanEntry) : State :=
  { s with
    mon.conv.scanList := list
    mon.conv.pendingScan := none
    mon.conv.histories := s.mon.conv.histories.drop s.mon.conv.scanList list
    mon.conv.scanIndex := 0
    mon.conv.scanDiscards := (list.head?.map ScanEntry.discards).getD 0 }

theorem endVisit_of_some {s : State} {list : List ScanEntry} (h : s.mon.conv.pendingScan = some list) :
    s.endVisit =
      if dropped s.mon.conv.scanList list .dieTemp then (s.rescanned list).setDieHot false else s.rescanned list := by
  rw [endVisit, h, rescanned, List.head?_eq_getElem?]
  rfl

end State

/-! ### The check of SCAN LIST (R115) -/

/-- What one entry of SCAN LIST has to be (R115). -/
abbrev ScanEntryGood (a : ScanArg) : Prop :=
  (∃ c, a.channel = some c ∧ c ≠ .current) ∧ (a.rate = 32 ∨ a.rate = 64 ∨ a.rate = 128 ∨ a.rate = 256) ∧ a.discards ≤ 3

/-- What the whole of SCAN LIST has to be (R115). -/
abbrev ScanListGood (entries : List ScanArg) : Prop :=
  (∀ a ∈ entries, ScanEntryGood a) ∧ 1 ≤ entries.length ∧ entries.length ≤ 8 ∧
    ∀ c ∈ [Channel.cell1, .cell2, .input, .battTemp], ∃ a ∈ entries, a.channel = some c

theorem checkScanEntry_of_channel {a : ScanArg} {c : Channel} (h : a.channel = some c) (hc : c ≠ .current) :
    checkScanEntry a = if checkRate a.rate && within a.discards 0 3 then some ⟨c, a.rate, a.discards⟩ else none := by
  rw [checkScanEntry, h]
  cases c with
  | current => exact absurd rfl hc
  | _ => rfl

theorem checkScanEntry_of_good {a : ScanArg} (h : ScanEntryGood a) :
    ∃ c, a.channel = some c ∧ checkScanEntry a = some ⟨c, a.rate, a.discards⟩ := by
  obtain ⟨⟨c, hchannel, hc⟩, hrate, hdiscards⟩ := h
  refine ⟨c, hchannel, ?_⟩
  rw [checkScanEntry_of_channel hchannel hc, if_pos]
  simpa [checkRate_iff, within] using ⟨hrate, hdiscards⟩

theorem good_of_checkScanEntry {a : ScanArg} {e : ScanEntry} (h : checkScanEntry a = some e) :
    ScanEntryGood a ∧ a.channel = some e.channel ∧ e.rate = a.rate ∧ e.discards = a.discards := by
  rcases hchannel : a.channel with _ | c
  · simp [checkScanEntry, hchannel] at h
  · by_cases hc : c = .current
    · simp [checkScanEntry, hchannel, hc] at h
    · rw [checkScanEntry_of_channel hchannel hc, Option.ite_none_right_eq_some, Option.some.injEq] at h
      obtain ⟨hcheck, rfl⟩ := h
      simp only [Bool.and_eq_true, checkRate_iff, within, decide_eq_true_eq] at hcheck
      obtain ⟨hrate, _, hdiscards⟩ := hcheck
      exact ⟨⟨⟨c, hchannel, hc⟩, hrate, hdiscards⟩, rfl, rfl, rfl⟩

/-- A list taken entry by entry: as many taken as given, each the one given there. -/
theorem mapM_eq_some_iff {α β : Type} (f : α → Option β) (l : List α) (m : List β) :
    l.mapM f = some m ↔ List.Forall₂ (fun a b => f a = some b) l m := by
  induction l generalizing m with
  | nil => simp [eq_comm]
  | cons a l ih => simp [List.mapM_cons, List.forall₂_cons_left_iff, ← ih, Option.bind_eq_some_iff, eq_comm (a := m)]

theorem exists_mapM_iff {α β : Type} (f : α → Option β) (l : List α) :
    (∃ m, l.mapM f = some m) ↔ ∀ a ∈ l, ∃ b, f a = some b := by
  induction l with
  | nil => simp
  | cons a l ih => simp [List.mapM_cons, ← ih, Option.bind_eq_some_iff]

theorem checkScanList_iff (entries : List ScanArg) (list : List ScanEntry) :
    checkScanList entries = some list ↔
      entries.mapM checkScanEntry = some list ∧ 1 ≤ list.length ∧ list.length ≤ 8 ∧
        ∀ c ∈ [Channel.cell1, .cell2, .input, .battTemp], ∃ e ∈ list, e.channel = c := by
  simp [checkScanList, Option.bind_eq_some_iff, within, scansChannel_iff, and_assoc]

section
variable {entries : List ScanArg} {list : List ScanEntry} (h : entries.mapM checkScanEntry = some list)
include h

/-- The entries taken are those given, one for one. -/
theorem scanEntries_taken : List.Forall₂ (fun a e => ScanEntryGood a ∧ a.channel = some e.channel ∧ e.rate = a.rate ∧
    e.discards = a.discards) entries list :=
  ((mapM_eq_some_iff _ _ _).mp h).imp fun _ _ => good_of_checkScanEntry

theorem scanEntries_getElem? {k : Nat} {a : ScanArg} {e : ScanEntry} (ha : entries[k]? = some a)
    (he : list[k]? = some e) : a.channel = some e.channel ∧ e.rate = a.rate ∧ e.discards = a.discards := by
  obtain ⟨hk, rfl⟩ := List.getElem?_eq_some_iff.mp ha
  obtain ⟨hk', rfl⟩ := List.getElem?_eq_some_iff.mp he
  exact ((scanEntries_taken h).get hk hk').2

/-- The channels given are the channels scanned. -/
theorem scanEntries_channel (c : Channel) : (∃ a ∈ entries, a.channel = some c) ↔ ∃ e ∈ list, e.channel = c := by
  have hchannels : entries.map ScanArg.channel = list.map fun e => some e.channel := by
    rw [← List.forall₂_eq_eq_eq, List.forall₂_map_left_iff, List.forall₂_map_right_iff]
    exact (scanEntries_taken h).imp fun _ _ ⟨_, hchannel, _⟩ => hchannel
  have hmem := congrArg (some c ∈ ·) hchannels
  simpa using hmem

end

/-- SCAN LIST passes its check exactly when it is good, and what it gives is what it was given. -/
theorem scanListGood_iff (entries : List ScanArg) : ScanListGood entries ↔ ∃ list, checkScanList entries = some list := by
  constructor
  · rintro ⟨hgood, hone, height, hchannels⟩
    have hentries : ∀ a ∈ entries, ∃ e, checkScanEntry a = some e := fun a ha => by
      obtain ⟨c, _, he⟩ := checkScanEntry_of_good (hgood a ha)
      exact ⟨_, he⟩
    obtain ⟨list, hlist⟩ := (exists_mapM_iff _ _).mpr hentries
    have hlength := (scanEntries_taken hlist).length_eq
    exact ⟨list, (checkScanList_iff _ _).mpr ⟨hlist, hlength ▸ hone, hlength ▸ height,
      fun c hc => (scanEntries_channel hlist c).mp (hchannels c hc)⟩⟩
  · rintro ⟨list, hcheck⟩
    obtain ⟨hlist, hone, height, hchannels⟩ := (checkScanList_iff _ _).mp hcheck
    have hlength := (scanEntries_taken hlist).length_eq
    refine ⟨fun a ha => ?_, hlength ▸ hone, hlength ▸ height,
      fun c hc => (scanEntries_channel hlist c).mpr (hchannels c hc)⟩
    obtain ⟨e, he⟩ := (exists_mapM_iff _ _).mp ⟨list, hlist⟩ a ha
    obtain ⟨hgood, _⟩ := good_of_checkScanEntry he
    exact hgood

section
variable {s : State} (htakes : s.Takes) (tag : Byte) {entries : List ScanArg}
include htakes

theorem exec_scanList_taken {list : List ScanEntry} (h : checkScanList entries = some list) :
    exec (.scanList tag entries) s = .next ({ s with mon.conv.pendingScan := some list }.replied tag .ok .none) :=
  State.exec_of_answer htakes rfl (by rw [h]; rfl) htakes.1

theorem exec_scanList_refused (h : checkScanList entries = none) :
    exec (.scanList tag entries) s = .next (s.replied tag .badArg .none) :=
  State.exec_of_refusal htakes rfl (by rw [h])

end

/-- Settles O53: a result by whether it is discarded, its consumers by its channel, the end of the visit by the pending
list, and SCAN LIST by its check. -/
theorem voltageResultIsTakenAndScanned : Obligations.VoltageResultIsTakenAndScanned := by
  refine ⟨fun s value => ⟨exec_voltageResult_discarded value, fun e hdiscards hentry =>
      exec_voltageResult_taken value hdiscards hentry (holdResult_eq _ _)⟩, ⟨rfl, rfl, rfl, rfl, rfl, rfl⟩,
    fun s v => ⟨?_, rfl, rfl, rfl, rfl⟩, fun s => ⟨State.endVisit_of_none, fun list hpending => ?_⟩,
    fun s tag entries htakes =>
      (⟨fun hgood => ?_, fun hbad => ?_⟩ : (ScanListGood entries → _) ∧ (¬ScanListGood entries → _))⟩
  · rintro c (rfl | rfl)
    · rfl
    · rfl
  · intro lost
    have hlost : ∀ ch, _ ↔ lost ch := dropped_iff s.mon.conv.scanList list
    have hend := State.endVisit_of_some hpending
    refine ⟨s.mon.conv.histories.drop s.mon.conv.scanList list, fun ch hch => ?_, rfl, fun hkept => ?_, fun hdie => ?_⟩
    · rw [Histories.drop_get _ _ _ hch]
      exact ⟨fun h => if_pos ((hlost ch).mpr h), fun h => if_neg (mt (hlost ch).mp h)⟩
    · exact hend.trans (if_neg (mt (hlost .dieTemp).mp hkept))
    · exact hend.trans (if_pos ((hlost .dieTemp).mpr hdie))
  · obtain ⟨list, hcheck⟩ := (scanListGood_iff entries).mp hgood
    obtain ⟨hlist, _⟩ := (checkScanList_iff _ _).mp hcheck
    exact ⟨list, (scanEntries_taken hlist).length_eq.symm, fun k a e => scanEntries_getElem? hlist,
      exec_scanList_taken htakes tag hcheck⟩
  · have hnone : checkScanList entries = none :=
      Option.eq_none_iff_forall_ne_some.mpr fun list hcheck => hbad ((scanListGood_iff entries).mpr ⟨list, hcheck⟩)
    exact exec_scanList_refused htakes tag hnone

end Sys2Proof.Machine
end

section
/-! PROOFS. The cell conditions: COV blocking and its release, DUV with its early warning and its cut (R118, R124, R127,
R128, R135). -/

namespace Sys2Proof.Machine

/-- A value lies below a threshold when it does not lie at or above it (R118). -/
theorem atLeast_eq_false_iff (v : Option Int) (threshold : Int) :
    atLeast v threshold = false ↔ ∀ x, v = some x → x < threshold := by
  rw [← below_iff, below, Bool.not_eq_true']

namespace State
variable {s : State}

/-! ### The cells, which the histories alone give (R118) -/

theorem higherCell_congr {u : State} (h : u.mon.conv.histories = s.mon.conv.histories) : u.higherCell = s.higherCell := by
  rw [higherCell, latest, latest, h]; rfl

theorem lowerCell_congr {u : State} (h : u.mon.conv.histories = s.mon.conv.histories) : u.lowerCell = s.lowerCell := by
  rw [lowerCell, latest, latest, h]; rfl

theorem elapse_histories (us : Nat) : (s.elapse us).mon.conv.histories = s.mon.conv.histories := by rw [elapse_eq]

theorem elapse_prot (us : Nat) :
    (s.elapse us).mon.prot = { s.mon.prot with scLeft := s.mon.prot.scLeft.map (· - us) } := by
  conv_lhs => rw [elapse_eq]

/-! ### COV at a cell result (R127) -/

section
variable (hblock : s.mon.prot.covBlocking = true)
include hblock

theorem evalCov_of_standing (h : ¬∀ x, s.higherCell = some x → x < (s.mon.prot.settings.covMv : Int) - 150) :
    s.evalCov = s := by
  rw [evalCov, if_pos hblock, if_neg (mt (below_iff _ _).mp h)]

theorem evalCov_of_release (h : ∀ x, s.higherCell = some x → x < (s.mon.prot.settings.covMv : Int) - 150) {v : State}
    (hv : { s with mon.prot.covBlocking := false }.settleSwitches = v) :
    s.evalCov =
      (v.notify (.protectionClear .covBlock .release s.monNow v.mon.prot.switches.discharge)).endHold .cov := by
  obtain ⟨_, _, _, _, _, hnow⟩ := settleSwitches_frame { s with mon.prot.covBlocking := false }
  have hnow : v.monNow = s.monNow := hv ▸ hnow
  rw [evalCov, if_pos hblock, if_pos ((below_iff _ _).mpr h), ← hnow, ← hv]
  rfl

end

theorem evalCov_of_clear (h : s.mon.prot.covBlocking = false) :
    s.evalCov =
      { s with
        mon.prot.cov := if atLeast s.higherCell s.mon.prot.settings.covMv then
            some (s.mon.prot.cov.getD (s.monNow + BitVec.ofNat 32 s.mon.prot.settings.covMs))
          else none } := if_neg (Bool.eq_false_iff.mp h)

/-! ### DUV at a cell result (R128) -/

theorem evalDuv_of_cut (h : s.mon.prot.duvCut = true) : s.evalDuv = s := if_pos h

section
variable (hcut : s.mon.prot.duvCut = false)
include hcut

section
variable (hnone : s.mon.prot.duv = none)
include hnone

theorem evalDuv_of_none :
    s.evalDuv =
      if below s.lowerCell s.mon.prot.settings.duvMv then
        s.onProt fun p => { p with duv := some (DuvTimer.start s.monNow p.settings.duvMs) }
      else s := by
  simp only [evalDuv, hcut, hnone, Bool.false_eq_true, reduceIte]

theorem evalDuv_of_idle (h : ¬∀ x, s.lowerCell = some x → x < s.mon.prot.settings.duvMv) : s.evalDuv = s := by
  rw [evalDuv_of_none hcut hnone, if_neg (mt (below_iff _ _).mp h)]

theorem evalDuv_of_under (h : ∀ x, s.lowerCell = some x → x < s.mon.prot.settings.duvMv) :
    s.evalDuv =
      { s with
        mon.prot.duv := some ⟨s.monNow + BitVec.ofNat 32 s.mon.prot.settings.duvMs,
          some (s.monNow + BitVec.ofNat 32 (s.mon.prot.settings.duvMs - 1500))⟩ } := by
  rw [evalDuv_of_none hcut hnone, if_pos ((below_iff _ _).mpr h)]
  rfl

end

variable (hrun : s.mon.prot.duv ≠ none)
include hrun

theorem evalDuv_of_some :
    s.evalDuv =
      if atLeast s.lowerCell (s.mon.prot.settings.duvMv + 100) then
        (s.onProt fun p => { p with duv := none }).endWarning
      else s := by
  obtain ⟨t, ht⟩ := Option.ne_none_iff_exists'.mp hrun
  simp only [evalDuv, hcut, ht, Bool.false_eq_true, reduceIte]

theorem evalDuv_of_running (h : ∀ x, s.lowerCell = some x → x < (s.mon.prot.settings.duvMv : Int) + 100) :
    s.evalDuv = s := by
  rw [evalDuv_of_some hcut hrun, (atLeast_eq_false_iff _ _).mpr h, if_neg Bool.false_ne_true]

theorem evalDuv_of_recovered (h : ¬∀ x, s.lowerCell = some x → x < (s.mon.prot.settings.duvMv : Int) + 100) :
    s.evalDuv =
      if s.mon.prot.earlyWarning then
        ({ s with mon.prot.duv := none, mon.prot.earlyWarning := false } : State).settleEnergy .warningEnded
      else { s with mon.prot.duv := none } := by
  have habove := Bool.eq_true_of_not_eq_false (mt (atLeast_eq_false_iff _ _).mp h)
  rw [evalDuv_of_some hcut hrun, if_pos habove]
  rfl

end

/-! ### The three expiries -/

/-- The switches that follow a change of the protection unit leave the cells and the time, which its notice carries. -/
theorem settleSwitches_measured (u : State) :
    u.settleSwitches.mon.conv = u.mon.conv ∧ u.settleSwitches.higherCell = u.higherCell ∧
    u.settleSwitches.monNow = u.monNow := by
  obtain ⟨_, _, hconv, _, _, hnow⟩ := u.settleSwitches_frame
  exact ⟨hconv, higherCell_congr (congrArg Converter.histories hconv), hnow⟩

section
variable {d : Time} (harrives : s.nothingEarlier (s.monLeft d) = true) {u : State} (hu : s.elapse (s.monLeft d) = u)
include harrives hu

theorem exec_covTimerExpiry (hcov : s.mon.prot.cov = some d) : exec .covTimerExpiry s = .next
    ((({ u with mon.prot.covBlocking := true, mon.prot.cov := none }.settleSwitches).notify
      (.protectionTrip .cov .chargeBlocked s.higherCell u.monNow false 0)).beginHold .cov) := by
  obtain ⟨_, hcell, hnow⟩ := settleSwitches_measured { u with mon.prot.covBlocking := true, mon.prot.cov := none }
  have hbefore : u.higherCell = s.higherCell := higherCell_congr (hu ▸ elapse_histories _)
  have hexec : exec .covTimerExpiry s = .next (s.expiry (s.mon.prot.cov.map s.monLeft) _) := rfl
  rw [hexec, hcov, Option.map_some, expiry_of_nothingEarlier harrives, hu, ← hbefore]
  refine congrArg (fun n => Host.Outcome.next (State.beginHold (State.notify _ n) .cov)) ?_
  exact congrArg₂ (fun cell now => Notice.protectionTrip .cov .chargeBlocked cell now false 0) hcell hnow

theorem exec_duvWarningExpiry {cut : Time} (hduv : s.mon.prot.duv = some ⟨cut, some d⟩) :
    exec .duvWarningExpiry s = .next
      (({ u with mon.prot.earlyWarning := true, mon.prot.duv := some ⟨cut, none⟩ } : State).settleEnergy
        .warningBegun) := by
  have hexec : exec .duvWarningExpiry s =
      .next (s.expiry ((s.mon.prot.duv.bind DuvTimer.warning).map s.monLeft) _) := rfl
  have hleft : (s.mon.prot.duv.bind DuvTimer.warning).map s.monLeft = some (s.monLeft d) := by rw [hduv]; rfl
  have hprot : u.mon.prot.duv = some ⟨cut, some d⟩ := by rw [← hu, elapse_prot]; exact hduv
  rw [hexec, hleft, expiry_of_nothingEarlier harrives, hu]
  simp only [onProt, hprot]
  rfl

/-- The cut in the order of R128, after a warning that has ended or not. -/
theorem exec_duvCutExpiry {warning : Option Time} (hduv : s.mon.prot.duv = some ⟨d, warning⟩) {ended : State}
    (hended : (if s.mon.prot.earlyWarning then
      ({ u with mon.prot.earlyWarning := false } : State).settleEnergy .warningEnded else u) = ended) :
    exec .duvCutExpiry s = .next
      ((({ ended with mon.prot.duvCut := true, mon.prot.duv := none }.settleSwitches).calibrate 0).notify
        (.protectionTrip .duv .duvCut s.lowerCell u.monNow false 0)) := by
  have hwarning : u.mon.prot.earlyWarning = s.mon.prot.earlyWarning := by rw [← hu, elapse_prot]
  have hend : u.endWarning = ended := by rw [← hended, ← hwarning]; rfl
  obtain ⟨_, _, _, _, _, _, hendConv, _, _, _, _, _, hendNow⟩ := u.endWarning_frame
  obtain ⟨hconv, _, hnow⟩ := settleSwitches_measured { ended with mon.prot.duvCut := true, mon.prot.duv := none }
  obtain ⟨_, _, _, _, _, _, _, _, _, _, _, _, _, hcutNow⟩ :=
    (settleSwitches { ended with mon.prot.duvCut := true, mon.prot.duv := none }).calibrate_frame 0
  have hcell : (calibrate (settleSwitches { ended with mon.prot.duvCut := true, mon.prot.duv := none }) 0).lowerCell =
      s.lowerCell := by
    refine lowerCell_congr ?_
    rw [calibrate_conv, hconv, ← elapse_histories (s.monLeft d), hu, ← hendConv, hend]
    rfl
  have hexec : exec .duvCutExpiry s = .next (s.expiry (s.mon.prot.duv.map fun t => s.monLeft t.cut) _) := rfl
  rw [hexec, hduv, Option.map_some, expiry_of_nothingEarlier harrives, hu, ← hcell, ← hendNow, hend]
  exact congrArg (fun now => Host.Outcome.next (State.notify _ (.protectionTrip .duv .duvCut _ now false 0)))
    (hcutNow.trans hnow)

end
end State

/-- Settles O57: COV and DUV by their branches at a cell result, and the three expiries, each told of the state at that
moment. -/
theorem cellConditionsBlockAndCut : Obligations.CellConditionsBlockAndCut :=
  ⟨fun _ => ⟨State.evalCov_of_standing, fun hblock h => State.evalCov_of_release hblock h rfl, State.evalCov_of_clear,
      (atLeast_eq_false_iff _ _).symm, State.evalDuv_of_cut, State.evalDuv_of_idle, State.evalDuv_of_under,
      State.evalDuv_of_running, State.evalDuv_of_recovered⟩,
    fun _ _ harrives => ⟨State.exec_covTimerExpiry harrives rfl, fun _ => State.exec_duvWarningExpiry harrives rfl,
      fun _ hduv => State.exec_duvCutExpiry harrives rfl hduv rfl⟩⟩

end Sys2Proof.Machine
end

section
/-! PROOFS. What a command leaves of the queue, the pins and the agreement of switches, latches and hold-offs (R129 to
R133): first layer, the part of a state that these speak of, and the operations that every block shares. -/

namespace Sys2Proof

/-- The commands that carry the level of an input pin: its edges, and the end of a PROTECT SETUP transfer, which judges
the comparator's signal anew (R78, R125, R134). -/
def Instr.movesPins (c : Instr) : Bool :=
  match c with
  | .cardDetectRise | .cardDetectFall | .scComparatorRise | .scComparatorFall | .protectTransferExpiry _ => true
  | _ => false

end Sys2Proof

namespace Sys2Proof.Machine

/-! ### The protection unit as the law reads it -/

namespace Protection

/-- The protection unit without what its law does not read: settings, condition timers, warning, and the history of
trips with what it arms. -/
def latched (p : Protection) : Protection :=
  { p with
    settings := .default, transfer := none, scLeft := none, doc := none, coc := none, cov := none, duv := none
    earlyWarning := false, recoveryArmed := false, recentTrips := [] }

/-- The clauses of State.ProtectionLaw that speak of the latches alone: hold-offs beside their trips (R130), the request
OFF in a lockout (R131), and no MANUAL with both settings on (R133). -/
def LatchLaw (p : Protection) : Prop :=
  p.dischargeHoldoff.isSome = p.dischargeTrip ∧ p.chargeHoldoff.isSome = p.chargeTrip ∧
  (p.lockout = true → p.dischargeRequest = false) ∧ (p.manual1 && p.manual2) = false

/-- The protection unit with its switches moved, and what that does to the timers of a switch that opens and to the SC
count (R124, R125). -/
def recomputed (p : Protection) (new : Switches) (signal : Bool) : Protection :=
  { p with
    scLeft := p.scAcross new.discharge signal
    doc := if new.discharge then p.doc else none
    coc := if new.charge then p.coc else none
    switches := new }

variable {p : Protection}

theorem latchLaw_afterPor : Protection.afterPor.LatchLaw := ⟨rfl, rfl, nofun, rfl⟩

/-- The SC count is nothing that the law reads (R125). -/
theorem latched_signalRise (p : Protection) : p.signalRise.latched = p.latched := by
  unfold signalRise
  split <;> rfl

theorem latched_signalJudged (p : Protection) (old new : Bool) :
    (p.signalJudged old new).latched = p.latched := by
  unfold signalJudged
  (repeat' split)
  · rfl
  · exact latched_signalRise p
  · rfl

/-- A discharge trip sets its latch and its hold-off together, with the request OFF (R130, R131). -/
theorem LatchLaw.tripDischarge (h : p.LatchLaw) (now : Time) : (p.tripDischarge now).LatchLaw := by
  obtain ⟨_, hcharge, _, hmanual⟩ := h
  unfold Protection.tripDischarge judgeLockout
  dsimp only
  split
  · exact ⟨rfl, hcharge, fun _ => rfl, hmanual⟩
  · exact ⟨rfl, hcharge, fun _ => rfl, hmanual⟩

/-- At the end of a discharge hold-off the request comes back only without a lockout (R130, R131). -/
theorem LatchLaw.endDischargeHoldoff (h : p.LatchLaw) :
    ({ p with
      dischargeHoldoff := none, dischargeTrip := false
      dischargeRequest := p.dischargeRequest || (p.recoveryArmed && !p.lockout) } : Protection).LatchLaw := by
  obtain ⟨_, hcharge, hlockout, hmanual⟩ := h
  refine ⟨rfl, hcharge, fun (hlock : p.lockout = true) => ?_, hmanual⟩
  simp [hlockout hlock, hlock]

/-- MANUAL with both cells on is held as both off (R133). -/
theorem LatchLaw.setBalance (h : p.LatchLaw) {mode : BalanceArg} {m : BalanceMode} {settings : Option (Bool × Bool)}
    (hcheck : checkBalance mode = some (m, settings)) : (p.setBalance m settings).LatchLaw := by
  obtain ⟨hdischarge, hcharge, hlockout, hmanual⟩ := h
  refine ⟨hdischarge, hcharge, hlockout, ?_⟩
  unfold checkBalance at hcheck
  split at hcheck
  · cases hcheck; exact hmanual
  next c1 c2 => cases hcheck; cases c1 <;> cases c2 <;> rfl
  · cases hcheck

end Protection

/-! ### The footing of a state -/

/-- What waits, the pins, and what the law of the protection unit reads. -/
structure Footing where
  pending : List Instr
  pins : Pins
  prot : Protection
  charger : ChargerState
  demand : Demand

namespace State

/-- The footing of a state. -/
def footing (s : State) : Footing := ⟨s.pending, s.pins, s.mon.prot.latched, s.mon.chg.state, s.mon.chg.demand⟩

/-- The law of the protection unit, in its two halves: the outputs are those recomputed, and the latches agree. -/
theorem protectionLaw_iff (s : State) :
    s.ProtectionLaw ↔
      s.mon.prot.switches = s.mon.prot.computeSwitches s.mon.chg.state s.mon.chg.demand ∧ s.mon.prot.LatchLaw := Iff.rfl

/-- The law of the protection unit reads the footing alone. -/
theorem protectionLaw_of_footing {s t : State} (heq : t.footing = s.footing) (h : s.ProtectionLaw) :
    t.ProtectionLaw := by
  have hfooting : ∀ u : State, u.ProtectionLaw ↔
      u.footing.prot.switches = u.footing.prot.computeSwitches u.footing.charger u.footing.demand ∧
        u.footing.prot.LatchLaw := fun _ => Iff.rfl
  rwa [hfooting, heq, ← hfooting]

section
variable (s : State)

@[simp] theorem footing_elapse (us : Nat) : (s.elapse us).footing = s.footing := by
  simp [footing, elapse_prot, Protection.latched]

@[simp] theorem footing_onLink (f : Link → Link) : (s.onLink f).footing = s.footing := rfl
@[simp] theorem footing_onConv (f : Converter → Converter) : (s.onConv f).footing = s.footing := rfl
@[simp] theorem footing_onEnergy (f : Energy → Energy) : (s.onEnergy f).footing = s.footing := rfl

@[simp] theorem footing_onProt {f : Protection → Protection} (h : (f s.mon.prot).latched = s.mon.prot.latched) :
    (s.onProt f).footing = s.footing := by simp [footing, h]

@[simp] theorem footing_onChg {f : Charger → Charger} (hstate : (f s.mon.chg).state = s.mon.chg.state)
    (hdemand : (f s.mon.chg).demand = s.mon.chg.demand) : (s.onChg f).footing = s.footing := by
  simp [footing, hstate, hdemand]

@[simp] theorem footing_notify (n : Notice) : (s.notify n).footing = s.footing := by simp [footing]

@[simp] theorem footing_reply (tag : Byte) (code : ReplyCode) (data : ReplyData) :
    (s.reply tag code data).footing = s.footing := by simp [footing]

@[simp] theorem footing_answer (tag : Byte) (code : ReplyCode) : (s.answer tag code).footing = s.footing := by
  simp [footing]

@[simp] theorem footing_settleRail : s.settleRail.footing = s.footing := by simp [footing]

@[simp] theorem footing_settleEnergy (cause : EnergyCause) : (s.settleEnergy cause).footing = s.footing := by
  simp [footing]

@[simp] theorem footing_calibrate (charge : Int) : (s.calibrate charge).footing = s.footing := by simp [footing]

@[simp] theorem footing_noticeClear (c : Cleared) (cause : ClearCause) :
    (s.noticeClear c cause).footing = s.footing := by simp [footing]

@[simp] theorem footing_enter (c : Channel) (v : Int) : (s.enter c v).footing = s.footing := rfl

@[simp] theorem footing_countCharge (i : Int) : (s.countCharge i).footing = s.footing := by simp [footing]

@[simp] theorem footing_settleIccEff : s.settleIccEff.footing = s.footing := rfl

@[simp] theorem footing_answerProtect : s.answerProtect.footing = s.footing := by simp [footing]

/-- The end of an early warning leaves every latch. -/
@[simp] theorem footing_endWarning : s.endWarning.footing = s.footing := by
  unfold endWarning
  split
  · rw [footing_settleEnergy]; rfl
  · rfl

/-- DUV at a cell result moves its timer and the early warning alone (R128). -/
@[simp] theorem footing_evalDuv : s.evalDuv.footing = s.footing := by
  unfold evalDuv
  dsimp only
  (repeat' split)
  · rfl
  · rfl
  · rfl
  · rw [footing_endWarning]; rfl
  · rfl

end

/-- What the recomputation of the switches makes of the protection unit; the rail after it leaves that (R129, R153). -/
theorem settleSwitches_prot (s : State) :
    s.settleSwitches.mon.prot =
      s.mon.prot.recomputed (s.mon.prot.computeSwitches s.mon.chg.state s.mon.chg.demand) s.pins.scSignal := by
  obtain ⟨_, _, _, hprot, _⟩ := settleRail_frame (s.onProt fun p =>
    p.recomputed (p.computeSwitches s.mon.chg.state s.mon.chg.demand) s.pins.scSignal)
  exact hprot

/-- The recomputation brings the outputs into agreement, whatever they were, where the latches agree (R129, R133). -/
theorem protectionLaw_settleSwitches {s : State} (h : s.mon.prot.LatchLaw) : s.settleSwitches.ProtectionLaw := by
  obtain ⟨_, _, _, hchg, _⟩ := s.settleSwitches_frame
  rw [protectionLaw_iff, settleSwitches_prot, hchg]
  exact ⟨rfl, h⟩

end State

/-! ### What a command leaves -/

/-- What a command makes of a state: the queue as it was, the pins as they were unless the command carries a level, and
the law of the protection unit kept. -/
structure State.Continues (c : Instr) (s t : State) : Prop where
  pending : t.pending = s.pending
  pins : c.movesPins = false → t.pins = s.pins
  law : s.ProtectionLaw → t.ProtectionLaw

namespace State.Continues
variable {c : Instr} {s u t : State}

theorem refl (c : Instr) (s : State) : Continues c s s := ⟨rfl, fun _ => rfl, id⟩

theorem of_footing (h : Continues c s u) (heq : t.footing = u.footing) : Continues c s t where
  pending := (congrArg Footing.pending heq).trans h.pending
  pins hc := (congrArg Footing.pins heq).trans (h.pins hc)
  law hlaw := protectionLaw_of_footing heq (h.law hlaw)

/-- Charger fields that the law does not read. -/
theorem onChg (h : Continues c s u) (f : Charger → Charger)
    (hstate : (f u.mon.chg).state = u.mon.chg.state := by rfl)
    (hdemand : (f u.mon.chg).demand = u.mon.chg.demand := by rfl) : Continues c s (u.onChg f) :=
  h.of_footing (footing_onChg u hstate hdemand)

/-- Fields of the protection unit that the law does not read. -/
theorem onProt (h : Continues c s u) (f : Protection → Protection)
    (hlatched : (f u.mon.prot).latched = u.mon.prot.latched := by rfl) : Continues c s (u.onProt f) :=
  h.of_footing (footing_onProt u hlatched)

theorem onConv (h : Continues c s u) (f : Converter → Converter) : Continues c s (u.onConv f) :=
  h.of_footing (footing_onConv u f)

theorem settleIccEff (h : Continues c s u) : Continues c s u.settleIccEff := h.of_footing (footing_settleIccEff u)

/-- A state whose charger and latches have moved, after the recomputation of the switches. -/
theorem settleSwitches (h : Continues c s u) (hpending : t.pending = u.pending) (hpins : t.pins = u.pins)
    (hlatch : u.mon.prot.LatchLaw → t.mon.prot.LatchLaw) : Continues c s t.settleSwitches := by
  obtain ⟨hpending', hpins', _⟩ := t.settleSwitches_frame
  exact
    { pending := hpending'.trans (hpending.trans h.pending)
      pins := fun hc => hpins'.trans (hpins.trans (h.pins hc))
      law := fun hlaw => protectionLaw_settleSwitches (hlatch ((protectionLaw_iff u).mp (h.law hlaw)).2) }

/-- Latches that have moved in agreement, with the switches after them. -/
theorem relatched (h : Continues c s u) {f : Protection → Protection}
    (hlatch : u.mon.prot.LatchLaw → (f u.mon.prot).LatchLaw) : Continues c s (u.onProt f).settleSwitches :=
  h.settleSwitches rfl rfl hlatch

/-- A command that carries a level sets a pin. -/
theorem onPins (h : Continues c s u) (hc : c.movesPins = true) (f : Pins → Pins) : Continues c s (u.onPins f) where
  pending := h.pending
  pins hc' := absurd (hc'.symm.trans hc) Bool.false_ne_true
  law := h.law

/-! ### The shapes of a command -/

theorem request (h : Continues c s u) {tag : Byte} {kind : RequestKind} {body : State → State}
    (hbody : ∀ v, Continues c s v → Continues c s (body v)) : Continues c s (u.request tag kind body) := by
  rcases u.request_cases tag kind body with ⟨_, _, heq⟩ | ⟨_, _, heq⟩ | ⟨_, heq⟩ <;> rw [heq]
  · exact hbody _ (h.of_footing (by simp))
  · exact h.of_footing (by simp)
  · exact h

theorem expiry (h : Continues c s u) {left : Option Nat} {act : State → State}
    (hact : ∀ v, Continues c s v → Continues c s (act v)) : Continues c s (u.expiry left act) := by
  rcases u.expiry_cases left act with ⟨_, heq⟩ | ⟨_, _, _, heq⟩ | ⟨us, _, _, heq⟩ <;> rw [heq]
  · exact h
  · exact h
  · exact hact _ (h.of_footing (by simp))

end State.Continues
end Sys2Proof.Machine
end

section
/-! PROOFS. What a command leaves of the queue, the pins and the agreement of switches, latches and hold-offs, second
layer: the operations of the monitor domain. Each that moves a latch, the charger state or the balance demand recomputes
the switches after it. -/

namespace Sys2Proof.Machine.State.Continues
variable {c : Instr} {s u : State} (h : Continues c s u)
include h

/-! ### Trips, and input at the protection unit (R130, R131) -/

theorem dischargeTrip (condition : Condition) (measurement : Option Int) :
    Continues c s (u.dischargeTrip condition measurement) :=
  (h.relatched fun hlatch => hlatch.tripDischarge u.monNow).of_footing (footing_notify _ _)

theorem chargeTrip : Continues c s u.chargeTrip := by
  refine (h.relatched fun hlatch => ?_).of_footing (footing_notify _ _)
  obtain ⟨hdischarge, _, hlockout, hmanual⟩ := hlatch
  exact ⟨hdischarge, rfl, hlockout, hmanual⟩

theorem noticeClear (cleared : Cleared) (cause : ClearCause) : Continues c s (u.noticeClear cleared cause) :=
  h.of_footing (footing_noticeClear _ _ _)

theorem protectInput : Continues c s u.protectInput := by
  have hcleared : Continues c s (u.onProt fun p =>
      { p with
        lockout := false, duvCut := false, recentTrips := if u.mon.prot.lockout then [] else p.recentTrips
        dischargeRequest := true }).settleSwitches := by
    refine h.relatched fun hlatch => ?_
    obtain ⟨hdischarge, hcharge, _, hmanual⟩ := hlatch
    exact ⟨hdischarge, hcharge, fun hlock => absurd hlock Bool.false_ne_true, hmanual⟩
  unfold State.protectInput
  dsimp only
  split
  · exact hcleared.of_footing (by (repeat' split) <;> simp)
  · exact h

/-! ### Charger -/

/-- The charger moved, with the demand and the setpoint after it, and then the switches. -/
theorem charged (f : Charger → Charger) :
    Continues c s ((u.onChg f).settleDemand.onChg Charger.settleSetpoint).settleSwitches :=
  h.settleSwitches rfl rfl id

theorem moveCharger (new : ChargerState) (cause : ChargerCause) (causes : HoldCauses) :
    Continues c s (u.moveCharger new cause causes) := by
  unfold State.moveCharger
  dsimp only
  (repeat' split)
  · exact h
  · exact (h.charged _).of_footing ((footing_calibrate _ _).trans (footing_notify _ _))
  · exact (h.charged _).of_footing (footing_notify _ _)

theorem beginHold (cause : HoldCause) : Continues c s (u.beginHold cause) := by
  unfold State.beginHold
  (repeat' split)
  · exact h.moveCharger _ _ _
  · exact h.onChg _
  · exact h

theorem endHold (cause : HoldCause) : Continues c s (u.endHold cause) := by
  unfold State.endHold
  dsimp only
  (repeat' split)
  · exact (h.onChg _).moveCharger _ _ _
  · exact h.onChg _
  · exact h

theorem chargerBattTemp (t : Int) : Continues c s (u.chargerBattTemp t) := by
  unfold State.chargerBattTemp
  dsimp only
  (repeat' split)
  · exact (h.onChg _).settleIccEff.beginHold _
  · exact (h.onChg _).settleIccEff.endHold _
  · exact (h.onChg _).settleIccEff

theorem setDieHot (hot : Bool) : Continues c s (u.setDieHot hot) := by
  unfold State.setDieHot
  dsimp only
  (repeat' split)
  · exact (h.onChg _).settleIccEff.beginHold _
  · exact (h.onChg _).settleIccEff.endHold _
  · exact (h.onChg _).settleIccEff

theorem chargerCell : Continues c s u.chargerCell := by
  have hdemand : Continues c s u.settleDemand.settleSwitches := h.settleSwitches rfl rfl id
  unfold State.chargerCell
  (repeat' split)
  · exact h.moveCharger _ _ _
  · exact h
  · exact h.moveCharger _ _ _
  · exact h
  · exact hdemand
  · exact h.moveCharger _ _ _
  · exact hdemand
  · exact h

theorem chargerCurrent (i : Int) : Continues c s (u.chargerCurrent i) := by
  unfold State.chargerCurrent
  dsimp only
  split
  · refine iteInduction (motive := Continues c s) (fun _ => ?_) fun _ => ?_
    · exact (h.onChg _).moveCharger _ _ _
    · exact h.onChg _
  · exact h

/-- Input that comes or goes, with the rail after it (R136, R153). -/
theorem inputMoved (present : Bool) (count : Nat) :
    Continues c s (u.onChg fun g => { g with inputPresent := present, highCount := count }).settleRail :=
  h.of_footing (footing_settleRail _)

theorem inputAbsent : Continues c s u.inputAbsent :=
  ((h.inputMoved false 0).moveCharger _ _ _).of_footing (footing_settleEnergy _ _)

theorem inputPresent : Continues c s u.inputPresent := by
  have hmoved := h.inputMoved true 3
  refine (State.Continues.protectInput ?_).of_footing (footing_settleEnergy _ _)
  exact iteInduction (motive := Continues c s) (fun _ => hmoved.moveCharger _ _ _) fun _ => hmoved

theorem judgeInput (mv : Int) : Continues c s (u.judgeInput mv) := by
  unfold State.judgeInput
  (repeat' split)
  · exact h.inputAbsent
  · exact h
  · exact h.inputPresent
  · exact h.onChg _
  · exact h.onChg _

theorem chargerInput (mv : Int) : Continues c s (u.chargerInput mv) :=
  iteInduction (motive := Continues c s) (fun _ => (h.judgeInput mv).onChg _) fun _ => h.judgeInput mv

/-! ### Cells, results and visits -/

theorem evalCov : Continues c s u.evalCov := by
  unfold State.evalCov
  (repeat' split)
  · exact ((h.relatched (f := fun p => { p with covBlocking := false }) id).noticeClear _ _).endHold _
  · exact h
  · exact h.onProt _

theorem takeCurrent (i : Int) : Continues c s (u.takeCurrent i) :=
  ((h.of_footing ((footing_countCharge _ i).trans (footing_enter u .current i))).onProt _).chargerCurrent i

theorem handOn (channel : Channel) (v : Int) : Continues c s (u.handOn channel v) := by
  have hcell : Continues c s (u.evalCells.chargerCell.settleEnergy .cell) :=
    (h.evalCov.of_footing (footing_evalDuv _)).chargerCell.of_footing (footing_settleEnergy _ _)
  cases channel with
  | cell1 => exact hcell
  | cell2 => exact hcell
  | input => exact h.chargerInput v
  | battTemp => exact h.chargerBattTemp v
  | dieTemp => exact h.setDieHot _
  | pack => exact h
  | current => exact h

theorem endVisit : Continues c s u.endVisit := by
  unfold State.endVisit
  split
  · exact h.onConv _
  · exact iteInduction (motive := Continues c s) (fun _ => (h.onConv _).setDieHot _) fun _ => h.onConv _

end Sys2Proof.Machine.State.Continues
end

section
/-! PROOFS. What a command leaves of the queue, the pins and the agreement of switches, latches and hold-offs: the
commands of the monitor domain. -/

namespace Sys2Proof.Machine.State.Continues
variable {c : Instr} {s : State}

theorem ends_currentResult (milliamps : Int) : Ends (Continues c s) (execCurrentResult milliamps s) := by
  refine ends_next (onConv ?_ _)
  split
  · exact (refl c s).onConv _
  · exact (refl c s).takeCurrent _

theorem ends_voltageResult (value : Int) : Ends (Continues c s) (execVoltageResult value s) := by
  refine ends_next ?_
  (repeat' split)
  · exact (refl c s).onConv _
  · exact refl c s
  · exact (((refl c s).of_footing (footing_enter _ _ _)).handOn _ _).endVisit

theorem ends_covTimerExpiry : Ends (Continues c s) (execCovTimerExpiry s) := by
  refine ends_next ((refl c s).expiry fun u hu => beginHold ?_ _)
  exact (hu.relatched (f := fun p => { p with covBlocking := true, cov := none }) id).of_footing (footing_notify _ _)

theorem ends_duvCutExpiry : Ends (Continues c s) (execDuvCutExpiry s) := by
  refine ends_next ((refl c s).expiry fun u hu => ?_)
  have hended := hu.of_footing (footing_endWarning u)
  have hcut := hended.relatched (f := fun p => { p with duvCut := true, duv := none }) id
  exact hcut.of_footing ((footing_notify _ _).trans (footing_calibrate _ _))

theorem ends_dischargeHoldoffExpiry : Ends (Continues c s) (execDischargeHoldoffExpiry s) :=
  ends_next ((refl c s).expiry fun _ hu => (hu.relatched fun hlatch => hlatch.endDischargeHoldoff).noticeClear _ _)

theorem ends_chargeHoldoffExpiry : Ends (Continues c s) (execChargeHoldoffExpiry s) := by
  refine ends_next ((refl c s).expiry fun u hu => noticeClear (hu.relatched fun hlatch => ?_) _ _)
  obtain ⟨hdischarge, _, hlockout, hmanual⟩ := hlatch
  exact ⟨hdischarge, rfl, hlockout, hmanual⟩

/-- DISCHARGE SWITCH: OFF agrees with every latch, and ON is taken without a lockout (R132). -/
theorem ends_dischargeSwitch (tag : Byte) (on : Option Bool) : Ends (Continues c s) (execDischargeSwitch tag on s) := by
  refine ends_next ((refl c s).request fun u hu => ?_)
  (repeat' split)
  · exact hu.of_footing (footing_answer _ _ _)
  · refine (hu.relatched fun hlatch => ?_).of_footing (footing_answer _ _ _)
    obtain ⟨hdischarge, hcharge, _, hmanual⟩ := hlatch
    exact ⟨hdischarge, hcharge, fun _ => rfl, hmanual⟩
  · exact hu.of_footing (footing_answer _ _ _)
  · exact hu.of_footing (footing_answer _ _ _)
  next hclear _ =>
    refine (hu.relatched fun hlatch => ?_).of_footing (footing_answer _ _ _)
    obtain ⟨hdischarge, hcharge, _, hmanual⟩ := hlatch
    exact ⟨hdischarge, hcharge, fun hlock => absurd (Bool.or_eq_true_iff.mpr (.inr hlock)) hclear, hmanual⟩

theorem ends_balanceSet (tag : Byte) (mode : BalanceArg) : Ends (Continues c s) (execBalanceSet tag mode s) := by
  refine ends_next ((refl c s).request fun u hu => ?_)
  split
  · exact hu.of_footing (footing_answer _ _ _)
  next hcheck =>
    exact (hu.relatched fun hlatch => hlatch.setBalance hcheck).of_footing (footing_reply _ _ _ _)

theorem ends_protectSetup (tag : Byte) (args : ProtectArgs) : Ends (Continues c s) (execProtectSetup tag args s) := by
  refine ends_next ((refl c s).request fun u hu => hu.of_footing ?_)
  (repeat' split)
  · exact footing_answer _ _ _
  · exact footing_answer _ _ _
  · rfl


theorem ends_protectTransferExpiry (hc : c.movesPins = true) (signal : Bool) :
    Ends (Continues c s) (execProtectTransferExpiry signal s) :=
  ends_next ((refl c s).expiry fun _ hu =>
    ((hu.onProt _ (Protection.latched_signalJudged _ _ _)).onPins hc _).of_footing (footing_answerProtect _))

theorem ends_chargeInhibit (tag : Byte) (on : Option Bool) : Ends (Continues c s) (execChargeInhibit tag on s) := by
  refine ends_next ((refl c s).request fun u hu => ?_)
  split
  · exact hu.of_footing (footing_answer _ _ _)
  all_goals
    refine of_footing ?_ (footing_answer _ _ _)
    split
  · exact hu.onChg _
  · exact (hu.onChg _).moveCharger _ _ _
  · exact (hu.onChg _).moveCharger _ _ _
  · exact hu.onChg _

theorem ends_qualifyDeadlineExpiry : Ends (Continues c s) (execQualifyDeadlineExpiry s) := by
  refine ends_next ((refl c s).expiry fun u hu => ?_)
  dsimp only
  (repeat' split)
  all_goals exact (hu.onChg _).moveCharger _ _ _

end Sys2Proof.Machine.State.Continues
end

section
/-! PROOFS. The law of the protection unit (O12), and the queue and the pins across a command (O3): every command, by
the shape it has. -/

namespace Sys2Proof.Machine

namespace State.Continues
variable {c : Instr} {s : State}

/-! ### Commands that leave the footing -/

theorem ends_whenUp {body : State → State} (hbody : (body s).footing = s.footing) :
    Ends (Continues c s) (.next (s.whenUp body)) :=
  ends_next (law_whenUp (refl c s) ((refl c s).of_footing hbody))

theorem ends_request {tag : Byte} {kind : RequestKind} {body : State → State}
    (hbody : ∀ u, (body u).footing = u.footing) : Ends (Continues c s) (.next (s.request tag kind body)) :=
  ends_next ((refl c s).request fun u hu => hu.of_footing (hbody u))

theorem ends_pathExpiry {left : Option Nat} {act : State → State} (hact : ∀ u, (act u).footing = u.footing) :
    Ends (Continues c s) (.next (s.whenUp fun s => s.expiry left act)) :=
  ends_next (law_whenUp (refl c s) ((refl c s).expiry fun u hu => hu.of_footing (hact u)))

/-! ### Every command -/

/-- Every command leaves the queue, moves the pins only where it carries a level, and keeps the law of the protection
unit. -/
theorem of_exec (c : Instr) (s : State) : Ends (Continues c s) (exec c s) := by
  have hself : s.Continues c s := .refl c s
  cases c with
  | powerOnReset => exact ends_next ⟨rfl, fun _ => rfl, fun _ => ⟨rfl, Protection.latchLaw_afterPor⟩⟩
  | pathResetEnd =>
    exact ends_next (hself.expiry fun u hu => hu.of_footing (by dsimp only; split <;> simp [footing]))
  | dataReadyEdge => exact ends_whenUp (by simp [footing])
  | sampleReadComplete bytes => exact ends_whenUp (by dsimp only; (repeat' split) <;> simp [footing])
  | sampleIntegration => exact ends_whenUp (by split <;> simp [footing])
  | imuSilent => exact ends_pathExpiry fun u => by simp [footing]
  | shockHoldExpiry => exact ends_pathExpiry fun u => by simp [footing]
  | motionSetup tag args => exact ends_request fun u => by split <;> simp [footing]
  | imuWrite tag address data => exact ends_request fun u => by split <;> simp [footing]
  | imuWriteDone => exact ends_whenUp (by split <;> simp [footing])
  | imuRead tag address count => exact ends_request fun u => by split <;> simp [footing]
  | imuReadDone bytes => exact ends_whenUp (by (repeat' split) <;> simp [footing])
  | lensTable tag axis spacing entries => exact ends_request fun u => by (repeat' split) <;> simp [footing]
  | steadyMode tag mode => exact ends_request fun u => by (repeat' split) <;> simp [footing]
  | recenter tag => exact ends_request fun u => by split <;> simp [footing]
  | loadGeometry tag args => exact ends_request fun u => by (repeat' split) <;> simp [footing]
  | frameStartUnit => exact ends_whenUp (by dsimp only; (repeat' split) <;> simp [footing])
  | lineUnit pixels => exact ends_whenUp (by (repeat' split) <;> simp [footing])
  | frameEndUnit => exact ends_whenUp (by split <;> simp [footing])
  | sensorStall => exact ends_pathExpiry fun u => by simp [footing]
  | clipArm tag slot clip track lowWater => exact ends_request fun u => by (repeat' split) <;> simp [footing]
  | extentAdd tag slot stream start length => exact ends_request fun u => by (repeat' split) <;> simp [footing]
  | clipStart tag slot => exact ends_request fun u => by (repeat' split) <;> simp [footing]
  | clipStop tag slot last => exact ends_request fun u => by (repeat' split) <;> simp [footing]
  | clipDrop tag slot => exact ends_request fun u => by (repeat' split) <;> simp [footing]
  | clipData slot n payload => exact ends_whenUp (by (repeat' split) <;> simp [footing])
  | plainWrite start n payload => exact ends_whenUp (by split <;> simp [footing])
  | cardDetectRise =>
    have hpin := hself.onPins rfl fun p => { p with cardDetect := true }
    exact ends_next (law_whenUp hpin (hpin.of_footing (by split <;> simp [footing])))
  | cardDetectFall =>
    have hpin := hself.onPins rfl fun p => { p with cardDetect := false }
    exact ends_next (law_whenUp hpin (hpin.of_footing (by split <;> simp [footing])))
  | cardDebounceExpiry => exact ends_pathExpiry fun u => by simp [footing]
  | cardStartResponse response => exact ends_whenUp (by split <;> simp [footing])
  | startDeadlineExpiry => exact ends_pathExpiry fun u => by simp [footing]
  | cardRescan tag => exact ends_request fun u => by (repeat' split) <;> simp [footing]
  | cardSetup tag retryLimit writeTimeout readWait => exact ends_request fun u => by split <;> simp [footing]
  | transactionBegin => exact ends_whenUp (by split <;> simp [footing])
  | cardCommandResponse good => exact ends_whenUp (by (repeat' split) <;> simp [footing])
  | writeBlockAck good => exact ends_whenUp (by dsimp only; (repeat' split) <;> simp [footing])
  | busyEnd => exact ends_whenUp (by (repeat' split) <;> simp [footing])
  | busyTimeout => exact ends_pathExpiry fun u => by split <;> simp [footing]
  | cardResponseTimeout => exact ends_pathExpiry fun u => by (repeat' split) <;> simp [footing]
  | readBlockReceived block => exact ends_whenUp (by (repeat' split) <;> simp [footing])
  | retryBegin => exact ends_whenUp (by split <;> simp [footing])
  | cardRead tag payload => exact ends_request fun u => by split <;> simp [footing]
  | readWaitTimeout => exact ends_pathExpiry fun u => by dsimp only; split <;> simp [footing]
  | bufferHandback => exact ends_whenUp (by split <;> simp [footing])
  | closingPad slot => exact ends_whenUp (by (repeat' split) <;> simp [footing])
  | summaryBuild slot => exact ends_whenUp (by split <;> simp [footing])
  | currentResult milliamps => exact ends_currentResult milliamps
  | voltageResult value => exact ends_voltageResult value
  | currentRate tag rate => exact ends_request fun u => by split <;> simp
  | scanList tag entries => exact ends_request fun u => by split <;> simp
  | counterSet tag args => exact ends_request fun u => by split <;> simp
  | scComparatorRise => exact ends_next ((hself.onProt _ (Protection.latched_signalRise _)).onPins rfl _)
  | scComparatorFall => exact ends_next ((hself.onProt _).onPins rfl _)
  | scDelayExpiry => exact ends_next (hself.expiry fun u hu => hu.dischargeTrip _ _)
  | docTimerExpiry => exact ends_next (hself.expiry fun u hu => hu.dischargeTrip _ _)
  | cocTimerExpiry => exact ends_next (hself.expiry fun u hu => hu.chargeTrip)
  | covTimerExpiry => exact ends_covTimerExpiry
  | duvWarningExpiry =>
    exact ends_next (hself.expiry fun u hu => (hu.onProt _).of_footing (footing_settleEnergy _ _))
  | duvCutExpiry => exact ends_duvCutExpiry
  | dischargeHoldoffExpiry => exact ends_dischargeHoldoffExpiry
  | chargeHoldoffExpiry => exact ends_chargeHoldoffExpiry
  | dischargeSwitch tag on => exact ends_dischargeSwitch tag on
  | balanceSet tag mode => exact ends_balanceSet tag mode
  | protectSetup tag args => exact ends_protectSetup tag args
  | protectTransferExpiry signal => exact ends_protectTransferExpiry rfl signal
  | chargeInhibit tag on => exact ends_chargeInhibit tag on
  | chargeSetup tag args => exact ends_request fun u => by split <;> simp
  | qualifyDeadlineExpiry => exact ends_qualifyDeadlineExpiry
  | prechargeTimerExpiry => exact ends_next (hself.expiry fun u hu => hu.moveCharger _ _ _)
  | fastTimerExpiry => exact ends_next (hself.expiry fun u hu => hu.moveCharger _ _ _)
  | zeroDeadlineExpiry => exact ends_next (hself.expiry fun u hu => (hu.onChg _).beginHold _)
  | weakClearExpiry => exact ends_next (hself.expiry fun u hu => (hu.onChg _).endHold _)
  | pathReset tag force => exact ends_request fun u => by (repeat' split) <;> simp [footing]
  | headerError => exact ends_whenUp (by simp [footing])
  | unknownRequest tag code => exact ends_request fun u => by simp
  | upstreamUnitSent => exact ends_whenUp (by simp [footing])
  | identify tag => exact ends_request fun u => by simp
  | statusRead tag => exact ends_request fun u => by simp
  | energyRead tag => exact ends_request fun u => by simp
  | controlPayloadFailure tag => exact ends_request fun u => by simp [footing]

end State.Continues

/-- The commands that carry the level of a pin, by name. -/
theorem eq_of_movesPins {c : Instr} (h : c.movesPins = true) :
    c = .cardDetectRise ∨ c = .cardDetectFall ∨ c = .scComparatorRise ∨ c = .scComparatorFall ∨
      ∃ signal, c = .protectTransferExpiry signal := by
  cases c with
  | cardDetectRise => exact .inl rfl
  | cardDetectFall => exact .inr (.inl rfl)
  | scComparatorRise => exact .inr (.inr (.inl rfl))
  | scComparatorFall => exact .inr (.inr (.inr (.inl rfl)))
  | protectTransferExpiry signal => exact .inr (.inr (.inr (.inr ⟨signal, rfl⟩)))
  | _ => cases h

/-- No command faults, and none is refused (log 4). -/
theorem exec_next (c : Instr) (s : State) : ∃ t, exec c s = .next t := by
  cases c <;> exact ⟨_, rfl⟩

/-- Settles O3: every command answers a next state, which leaves queue and pins as State.Continues.of_exec says. -/
theorem commandsNeverStopAndLeaveTheQueue : Obligations.CommandsNeverStopAndLeaveTheQueue := by
  intro c s
  obtain ⟨t, hexec⟩ := exec_next c s
  obtain ⟨hpending, hpins, _⟩ := State.Continues.of_exec c s t hexec
  refine ⟨t, hexec, hpending, ?_⟩
  cases hc : c.movesPins
  · exact .inl (hpins hc)
  · exact .inr (eq_of_movesPins hc)

/-- Settles O12: every command keeps the law by State.Continues.of_exec, and neither the queue nor the time that passes
is anything that the law reads. -/
theorem protectionLawIsKept : Obligations.ProtectionLawIsKept :=
  kept_of_exec (fun c s t hlaw hexec => (State.Continues.of_exec c s t hexec).law hlaw) (fun _ _ hlaw => hlaw)
    fun s hlaw => State.protectionLaw_of_footing (s.footing_elapse 1) hlaw

end Sys2Proof.Machine
end

section
/-! PROOFS. What the law of the protection unit gives (O19), and every law at reset (O5). -/

namespace Sys2Proof.Machine

/-! ### The five outputs under latches (R129, R133) -/

namespace Protection
variable {p : Protection}

theorem dischargeOn_of_off (h : p.dischargeRequest = false ∨ p.dischargeTrip = true ∨ p.duvCut = true) :
    p.dischargeOn = false := by
  rcases h with h | h | h <;> simp [dischargeOn, h]

theorem chargeOn_iff (c : ChargerState) :
    p.chargeOn c = true ↔ (c = .cc ∨ c = .cv) ∧ p.chargeTrip = false ∧ p.covBlocking = false := by
  simp [chargeOn, and_assoc]

theorem forced_iff :
    p.forced = true ↔ p.dischargeTrip = true ∨ p.chargeTrip = true ∨ p.lockout = true ∨ p.duvCut = true := by
  simp [forced, or_assoc]

theorem balanceOn_of_forced (h : p.forced = true) (demand : Demand) : p.balanceOn demand = (false, false) := if_pos h

/-- A demand names one cell at most, and MANUAL holds one setting at most (R133, R148). -/
theorem balanceOn_apart (hmanual : (p.manual1 && p.manual2) = false) (demand : Demand) :
    ¬((p.balanceOn demand).1 = true ∧ (p.balanceOn demand).2 = true) := by
  unfold balanceOn
  split
  · simp
  · cases p.balanceMode with
    | auto => cases demand <;> simp
    | manual => rw [← Bool.and_eq_true, hmanual]; exact Bool.false_ne_true

end Protection

/-- Settles O19: the outputs are those recomputed, and a hold-off, a lockout and a cut each turn a term of the discharge
switch off. -/
theorem switchesObeyTheLatches : Obligations.SwitchesObeyTheLatches := by
  rintro s ⟨hswitches, hholdoff, _, hlockout, hmanual⟩
  rw [hswitches]
  refine ⟨fun hoff => Protection.dischargeOn_of_off ?_, fun hon => (Protection.chargeOn_iff _).mp hon,
    Protection.balanceOn_apart hmanual _, fun hlatch => ?_⟩
  · rcases hoff with hrunning | hlock | hcut
    · exact .inr (.inl (hholdoff.symm.trans hrunning))
    · exact .inl (hlockout hlock)
    · exact .inr (.inr hcut)
  · have hforced := Protection.balanceOn_of_forced (Protection.forced_iff.mpr hlatch) s.mon.chg.demand
    exact ⟨congrArg Prod.fst hforced, congrArg Prod.snd hforced⟩

/-! ### Reset -/

theorem protectionLaw_reset : State.reset.ProtectionLaw := ⟨rfl, Protection.latchLaw_afterPor⟩

theorem powerLaw_reset : State.reset.PowerLaw := ⟨rfl, rfl, fun _ => rfl, fun _ => rfl, by decide⟩

/-- No transaction and no read: a card as a path reset leaves it. -/
theorem readLaw_afterReset : Card.afterReset.ReadLaw := ⟨nofun, nofun⟩

theorem requestLaw_reset : State.reset.RequestLaw :=
  ⟨rfl, by decide, by decide, by decide, nofun, readLaw_afterReset⟩

theorem bufferLaw_reset : State.reset.BufferLaw := ⟨rfl, by decide, by decide⟩

theorem shakeLaw_reset : State.reset.ShakeLaw := ⟨axisBounded_zero _, axisBounded_zero _, axisBounded_zero _⟩

theorem windowLaw_reset : State.reset.WindowLaw := ⟨nofun, by decide⟩

theorem heldExtents_reset : State.reset.heldExtents = [] := rfl

theorem extentLaw_reset : State.reset.ExtentLaw := by
  refine ⟨?_, nofun⟩
  rw [heldExtents_reset]; exact .nil

/-- The closing law and the record law are met by the slots, the window and the handbacks of a path reset. -/
theorem closingLaw_reset : State.reset.ClosingLaw :=
  State.reset.closingLaw_iff.mpr ((State.booked_sheltered False).reset rfl)

theorem recordLaw_reset : State.reset.RecordLaw :=
  State.reset.recordLaw_iff.mpr ((State.booked_sheltered True).reset rfl)

theorem bufferLaw_freed : Slot.freed.BufferLaw := by
  refine ⟨nofun, nofun, fun b x h => ?_⟩
  have hfree : Slot.freed.buffers[b] = .free := Vector.getElem_replicate _
  rw [hfree] at h; cases h

theorem clipLaw_reset : State.reset.ClipLaw := by
  refine ⟨by decide, by decide, .nil, nofun, nofun, fun i => ?_, .nil, nofun, fun _ i => ?_⟩
  · rw [reset_slot]; exact bufferLaw_freed
  · rw [reset_slot]; rfl

/-- The path domain is in reset, so that the credit pending waits with the lane free. -/
theorem laneLaw_reset : State.reset.LaneLaw := ⟨readLaw_afterReset, nofun, trivial⟩

/-- Settles O5: each law on the values of POR and of a path reset. -/
theorem resetMeetsEveryLaw : Obligations.ResetMeetsEveryLaw :=
  ⟨protectionLaw_reset, powerLaw_reset, requestLaw_reset, bufferLaw_reset, shakeLaw_reset, windowLaw_reset,
    extentLaw_reset, closingLaw_reset, recordLaw_reset, clipLaw_reset, laneLaw_reset⟩

end Sys2Proof.Machine
end

section
/-! PROOFS. The five switches and the rail after them (R124, R125, R129, R133, R153). -/

namespace Sys2Proof.Machine

/-- The balance outputs, cell by cell (R133). -/
theorem Protection.balanceOn_eq (p : Protection) (demand : Demand) :
    p.balanceOn demand =
      (!p.forced && (match p.balanceMode with
        | .auto => decide (demand = .cell1)
        | .manual => p.manual1),
       !p.forced && (match p.balanceMode with
        | .auto => decide (demand = .cell2)
        | .manual => p.manual2)) := by
  unfold balanceOn
  cases p.forced
  · cases p.balanceMode <;> simp [beq_eq_decide]
  · rfl

theorem Protection.computeSwitches_eq (p : Protection) (c : ChargerState) (demand : Demand) :
    p.computeSwitches c demand =
      ⟨p.dischargeRequest && !p.dischargeTrip && !p.duvCut,
        decide (c = .cc ∨ c = .cv) && !p.chargeTrip && !p.covBlocking, decide (c = .precharge) && !p.covBlocking,
        (p.balanceOn demand).1, (p.balanceOn demand).2⟩ := by
  rw [computeSwitches, chargeOn, Bool.decide_or]; rfl

/-- An opening stops the SC count, and a closing with the signal standing starts it (R124, R125). -/
theorem Protection.scAcross_eq (p : Protection) (on signal : Bool) :
    p.scAcross on signal =
      if on = true then
        (if p.switches.discharge = false ∧ signal = true then some (50 * p.settings.scSteps) else p.scLeft)
      else none := by
  cases on
  · rfl
  · simp only [scAcross, Bool.and_eq_true, Bool.not_eq_true', ProtectSettings.scUs]; rfl

/-- Settles O55: the switches by their terms, and the rail by its four cases. -/
theorem switchesAndRailFollowTheirTerms : Obligations.SwitchesAndRailFollowTheirTerms := by
  refine ⟨fun s => ?_, fun s => ?_⟩
  · dsimp only
    rw [State.settleSwitches]
    simp only [State.onProt, Protection.computeSwitches_eq, Protection.balanceOn_eq, Protection.scAcross_eq]
    rfl
  · dsimp only
    rw [← Bool.or_eq_true]
    refine ⟨fun hon hup => ?_, fun hon hdown => ?_, fun hoff hup => ?_, fun hoff hdown => ?_⟩
    · rw [State.settleRail, if_pos hon, if_pos hup]
    · rw [State.settleRail, if_pos hon, hdown]; rfl
    · rw [State.settleRail, if_neg hoff, if_pos hup]; rfl
    · rw [State.settleRail, if_neg hoff, hdown]; rfl

end Sys2Proof.Machine
end

section
/-! PROOFS. The current trips with their hold-offs, and what input clears (R125, R126, R130, R131, R135). -/

namespace Sys2Proof.Machine

/-! ### Trips and what input clears -/

namespace State
variable (s : State)

/-- The switches and the rail after them move no time, which a notice of the event carries. -/
theorem settleSwitches_monNow : s.settleSwitches.monNow = s.monNow := by
  obtain ⟨_, _, hnow⟩ := s.settleSwitches_measured
  exact hnow

/-- A recomputation of the switches leaves the latches (R129). -/
theorem settleSwitches_lockout : s.settleSwitches.mon.prot.lockout = s.mon.prot.lockout := by
  rw [settleSwitches_prot]; rfl

end State

/-- The judgement for lockout, with the third trip as a term of each field (R130, R131). -/
theorem Protection.tripDischarge_eq (p : Protection) (now : Time) {third : Bool}
    (hthird : decide (2 ≤ (freshTrips p.recentTrips now).length) = third) :
    p.tripDischarge now =
      { p with
        dischargeTrip := true
        dischargeRequest := false
        dischargeHoldoff := some (now + 1000)
        recoveryArmed := p.settings.autoRecovery && !third
        lockout := p.lockout || third
        recentTrips := if third then [] else freshTrips p.recentTrips now ++ [now] } := by
  cases third
  · have hfew : ¬2 ≤ (freshTrips p.recentTrips now).length := of_decide_eq_false hthird
    simp only [tripDischarge, judgeLockout, hfew, Bool.or_false, Bool.not_false, Bool.and_true]; rfl
  · have hmany : 2 ≤ (freshTrips p.recentTrips now).length := of_decide_eq_true hthird
    simp only [tripDischarge, judgeLockout, hmany, Bool.or_true, Bool.not_true, Bool.and_false]; rfl

/-- A discharge trip, with the lockout it begins named by the third trip (R130, R131, R135). -/
theorem State.dischargeTrip_eq (s : State) (condition : Condition) (measurement : Option Int) {third : Bool}
    (hthird : decide (2 ≤ (freshTrips s.mon.prot.recentTrips s.monNow).length) = third) :
    s.dischargeTrip condition measurement =
      (State.settleSwitches
        { s with
          mon.prot.dischargeTrip := true
          mon.prot.dischargeRequest := false
          mon.prot.dischargeHoldoff := some (s.monNow + 1000)
          mon.prot.recoveryArmed := s.mon.prot.settings.autoRecovery && !third
          mon.prot.lockout := s.mon.prot.lockout || third
          mon.prot.recentTrips :=
            if third then [] else freshTrips s.mon.prot.recentTrips s.monNow ++ [s.monNow] }).notify
        (.protectionTrip condition .dischargeOff measurement s.monNow (third && !s.mon.prot.lockout) 1000) := by
  have hlock : ((s.mon.prot.lockout || third) && !s.mon.prot.lockout) = (third && !s.mon.prot.lockout) := by
    cases third <;> cases s.mon.prot.lockout <;> rfl
  simp only [dischargeTrip, onProt, Protection.tripDischarge_eq _ _ hthird, settleSwitches_lockout,
    settleSwitches_monNow, hlock]
  rfl

section
variable {s : State}

theorem State.protectInput_of_clear (hlock : s.mon.prot.lockout = false) (hcut : s.mon.prot.duvCut = false) :
    s.protectInput = s := by
  rw [State.protectInput, hlock, hcut]; rfl

/-- A lockout and a cut that input clears, told of the state with the switches after both, with a notice for each that
stood (R131, R135). -/
theorem State.protectInput_of_latched (h : s.mon.prot.lockout = true ∨ s.mon.prot.duvCut = true) {v : State}
    (hv : State.settleSwitches
      { s with
        mon.prot.lockout := false
        mon.prot.duvCut := false
        mon.prot.dischargeRequest := true
        mon.prot.recentTrips := if s.mon.prot.lockout then [] else s.mon.prot.recentTrips } = v)
    {clear : Cleared → Notice}
    (hclear : clear = fun what => .protectionClear what .inputPresent s.monNow v.mon.prot.switches.discharge)
    {w : State} (hw : (if s.mon.prot.lockout then v.notify (clear .lockout) else v) = w) :
    s.protectInput = if s.mon.prot.duvCut then w.notify (clear .duvCut) else w := by
  have hnow : v.monNow = s.monNow := hv ▸ State.settleSwitches_monNow _
  have hnotice : ∀ {u : State}, u.mon = v.mon → ∀ what, u.noticeClear what .inputPresent = u.notify (clear what) := by
    intro u hu what
    rw [State.noticeClear, State.monNow, hu, ← State.monNow, hnow, hclear]
  have hlockout : (if s.mon.prot.lockout then v.noticeClear .lockout .inputPresent else v) = w := by
    rw [← hw, hnotice rfl]
  have hmon : w.mon = v.mon := by rw [← hw]; split <;> simp
  rw [← hnotice hmon, ← hlockout, ← hv, State.protectInput, if_pos (Bool.or_eq_true_iff.mpr h)]
  rfl

end

/-! ### The comparator, and the expiries of trips and hold-offs -/

/-- A rise of the comparator's signal starts the SC count while the discharge switch is on (R125). -/
theorem Protection.signalRise_eq (p : Protection) :
    p.signalRise =
      { p with scLeft := if p.switches.discharge = true then some (50 * p.settings.scSteps) else p.scLeft } := by
  unfold signalRise
  split <;> rfl

/-- An expiry that arrives, with none before it: the owner acts on the state at that moment (log 3). -/
theorem exec_of_expiry {s : State} {c : Instr} {left : Option Nat} {us : Nat} {act : State → State}
    (hexec : exec c s = .next (s.expiry left act)) (hset : left = some us) (harrives : s.nothingEarlier us = true) :
    exec c s = .next (act (s.elapse us)) := by
  rw [hexec, hset, State.expiry_of_nothingEarlier harrives]

theorem State.elapse_latest (s : State) (us : Nat) (c : Channel) : (s.elapse us).latest c = s.latest c := by
  rw [latest, elapse_histories]; rfl

/-- A charge trip (R130), with a notice of the current and the time it finds (R135). -/
theorem State.chargeTrip_eq (s : State) :
    s.chargeTrip =
      (State.settleSwitches
        { s with
          mon.prot.chargeTrip := true
          mon.prot.coc := none
          mon.prot.chargeHoldoff := some (s.monNow + 1000) }).notify
        (.protectionTrip .coc .chargeOff (s.latest .current) s.monNow false 1000) := by
  have hlatest : ∀ t : State, t.settleSwitches.latest .current = t.latest .current := fun t => by
    obtain ⟨hconv, _⟩ := t.settleSwitches_measured
    rw [latest, hconv]; rfl
  rw [chargeTrip, hlatest, settleSwitches_monNow]
  rfl

section
variable {s u : State} {d : Time} (harrives : s.nothingEarlier (s.monLeft d) = true) (hu : s.elapse (s.monLeft d) = u)
include harrives hu

theorem exec_docTimerExpiry (hdoc : s.mon.prot.doc = some d) :
    exec .docTimerExpiry s = .next (u.dischargeTrip .doc (s.latest .current)) := by
  rw [exec_of_expiry rfl (congrArg (Option.map s.monLeft) hdoc) harrives, State.elapse_latest, hu]

theorem exec_cocTimerExpiry (hcoc : s.mon.prot.coc = some d) : exec .cocTimerExpiry s = .next
    ((State.settleSwitches
      { u with
        mon.prot.chargeTrip := true
        mon.prot.coc := none
        mon.prot.chargeHoldoff := some (u.monNow + 1000) }).notify
      (.protectionTrip .coc .chargeOff (s.latest .current) u.monNow false 1000)) := by
  rw [exec_of_expiry rfl (congrArg (Option.map s.monLeft) hcoc) harrives, State.chargeTrip_eq, State.elapse_latest, hu]

theorem exec_dischargeHoldoffExpiry (hholdoff : s.mon.prot.dischargeHoldoff = some d) {v : State}
    (hv : State.settleSwitches
      { u with
        mon.prot.dischargeHoldoff := none
        mon.prot.dischargeTrip := false
        mon.prot.dischargeRequest :=
          s.mon.prot.dischargeRequest || (s.mon.prot.recoveryArmed && !s.mon.prot.lockout) } = v) :
    exec .dischargeHoldoffExpiry s = .next
      (v.notify (.protectionClear .dischargeTrip .holdoffEnd u.monNow v.mon.prot.switches.discharge)) := by
  have hprot : u.mon.prot = { s.mon.prot with scLeft := s.mon.prot.scLeft.map (· - s.monLeft d) } := by
    rw [← hu, State.elapse_prot]
  have hnow : v.monNow = u.monNow := hv ▸ State.settleSwitches_monNow _
  rw [exec_of_expiry rfl (congrArg (Option.map s.monLeft) hholdoff) harrives, hu, State.noticeClear, ← hnow, ← hv]
  simp only [State.onProt, hprot]

theorem exec_chargeHoldoffExpiry (hholdoff : s.mon.prot.chargeHoldoff = some d) {v : State}
    (hv : State.settleSwitches { u with mon.prot.chargeHoldoff := none, mon.prot.chargeTrip := false } = v) :
    exec .chargeHoldoffExpiry s = .next
      (v.notify (.protectionClear .chargeTrip .holdoffEnd u.monNow v.mon.prot.switches.discharge)) := by
  have hnow : v.monNow = u.monNow := hv ▸ State.settleSwitches_monNow _
  rw [exec_of_expiry rfl (congrArg (Option.map s.monLeft) hholdoff) harrives, hu, State.noticeClear, ← hnow, ← hv]
  rfl

end

/-- Settles O56: the comparator's edges on the SC count, the expiries by exec_of_expiry, a discharge trip by whether it
is the third, and input by the latches it finds. -/
theorem currentTripsAndHoldoffs : Obligations.CurrentTripsAndHoldoffs := by
  refine ⟨fun s => ⟨?_, rfl⟩, fun s us hcount harrives => ?_, fun s d harrives => ⟨fun hdoc => ?_, fun hcoc => ?_,
    fun hholdoff => ?_, fun hholdoff => ?_⟩,
    fun s condition measurement => ⟨?_, State.protectInput_of_clear, fun h => ?_⟩⟩
  · have hexec : exec .scComparatorRise s =
      .next ((s.onProt Protection.signalRise).onPins fun p => { p with scSignal := true }) := rfl
    rw [hexec, State.onProt, Protection.signalRise_eq]; rfl
  · rw [exec_of_expiry rfl hcount harrives, State.elapse_prot]
  · exact exec_docTimerExpiry harrives rfl hdoc
  · exact exec_cocTimerExpiry harrives rfl hcoc
  · exact exec_dischargeHoldoffExpiry harrives rfl hholdoff rfl
  · exact exec_chargeHoldoffExpiry harrives rfl hholdoff rfl
  · exact s.dischargeTrip_eq condition measurement rfl
  · exact State.protectInput_of_latched h rfl rfl rfl

end Sys2Proof.Machine
end

section
/-! PROOFS. DISCHARGE SWITCH, BALANCE SET, PROTECT SETUP and the end of its transfer (R132 to R134). -/

namespace Sys2Proof

/-- The ranges of 08 section 8.1. -/
def ProtectArgs.InRange (a : ProtectArgs) : Prop :=
  4000 ≤ a.scMa ∧ a.scMa ≤ 24000 ∧ 1 ≤ a.scSteps ∧ a.scSteps ≤ 63 ∧ 500 ≤ a.docMa ∧ a.docMa ≤ 15000 ∧
  1 ≤ a.docMs ∧ a.docMs ≤ 255 ∧ 200 ≤ a.cocMa ∧ a.cocMa ≤ 8000 ∧ 1 ≤ a.cocMs ∧ a.cocMs ≤ 255 ∧
  4200 ≤ a.covMv ∧ a.covMv ≤ 4450 ∧ 100 ≤ a.covMs ∧ a.covMs ≤ 5000 ∧ 2700 ≤ a.duvMv ∧ a.duvMv ≤ 3300 ∧
  (a.duvMs = 2000 ∨ a.duvMs = 3000 ∨ a.duvMs = 4000 ∨ a.duvMs = 6000)

end Sys2Proof

namespace Sys2Proof.Machine

theorem State.answer_of_pathDown {s : State} (h : s.pathUp = false) (tag : Byte) (code : ReplyCode) :
    s.answer tag code = s := by
  rcases s.reply_cases tag code .none with ⟨hup, _⟩ | ⟨_, heq⟩
  · rw [h] at hup; cases hup
  · exact heq

/-- A request that is taken, and answered after an effect that may have removed the rail: with the path domain up the
reply is queued, and otherwise it is lost with the request (R132, R162). -/
theorem exec_of_effect {s u : State} (htakes : s.Takes) {c : Instr} {tag : Byte} {body : State → State}
    (hexec : exec c s = .next (s.request tag .control body)) (hbody : body s.owing = u.answer tag .ok) :
    (u.pathUp = true → exec c s = .next (u.answered tag .ok .none)) ∧ (u.pathUp = false → exec c s = .next u) := by
  rw [hexec, State.request_of_takes htakes, hbody]
  exact ⟨fun hup => by rw [State.answer_of_pathUp hup], fun hdown => by rw [State.answer_of_pathDown hdown]⟩

/-! ### DISCHARGE SWITCH (R132) -/

section
variable {s : State} (htakes : s.Takes) (tag : Byte)
include htakes

theorem exec_dischargeSwitch_off {u : State}
    (hu : State.settleSwitches
      { s.owing with mon.prot.dischargeRequest := false, mon.prot.recoveryArmed := false } = u) :
    (u.pathUp = true → exec (.dischargeSwitch tag (some false)) s = .next (u.answered tag .ok .none)) ∧
    (u.pathUp = false → exec (.dischargeSwitch tag (some false)) s = .next u) :=
  exec_of_effect htakes rfl (hu ▸ rfl)

theorem exec_dischargeSwitch_refused (h : s.mon.prot.duvCut = true ∨ s.mon.prot.lockout = true) :
    exec (.dischargeSwitch tag (some true)) s = .next (s.replied tag .badState .none) :=
  State.exec_of_refusal htakes rfl (if_pos (Bool.or_eq_true_iff.mpr h))

section
variable (hclear : ¬(s.mon.prot.duvCut || s.mon.prot.lockout) = true)
include hclear

theorem exec_dischargeSwitch_heldOff (h : s.mon.prot.dischargeHoldoff ≠ none) :
    exec (.dischargeSwitch tag (some true)) s = .next (s.replied tag .holdoff .none) :=
  State.exec_of_refusal htakes rfl ((if_neg hclear).trans (if_pos (Option.isSome_iff_ne_none.mpr h)))

theorem exec_dischargeSwitch_on (h : s.mon.prot.dischargeHoldoff = none) {u : State}
    (hu : State.settleSwitches { s.owing with mon.prot.dischargeRequest := true } = u) :
    (u.pathUp = true → exec (.dischargeSwitch tag (some true)) s = .next (u.answered tag .ok .none)) ∧
    (u.pathUp = false → exec (.dischargeSwitch tag (some true)) s = .next u) := by
  have hfree : ¬s.mon.prot.dischargeHoldoff.isSome = true := by simp [h]
  exact exec_of_effect htakes rfl ((if_neg hclear).trans ((if_neg hfree).trans (hu ▸ rfl)))

end

/-! ### BALANCE SET (R133) -/

theorem exec_balanceSet_refused {arg : BalanceArg} (h : checkBalance arg = none) :
    exec (.balanceSet tag arg) s = .next (s.replied tag .badArg .none) := by
  refine State.exec_of_refusal htakes rfl ?_
  simp only [h]

/-- The mode and the settings held, with the outputs after them in the reply; AUTO keeps the settings (log 17). -/
theorem exec_balanceSet_taken {arg : BalanceArg} {mode : BalanceMode} {settings : Option (Bool × Bool)}
    (hcheck : checkBalance arg = some (mode, settings)) {c1 c2 : Bool}
    (hheld : settings.getD (s.mon.prot.manual1, s.mon.prot.manual2) = (c1, c2)) {u : State}
    (hu : State.settleSwitches
      { s.owing with mon.prot.balanceMode := mode, mon.prot.manual1 := c1, mon.prot.manual2 := c2 } = u)
    (hup : u.pathUp = true) :
    exec (.balanceSet tag arg) s = .next
      (u.answered tag .ok (.balance mode c1 c2 u.mon.prot.switches.balance1 u.mon.prot.switches.balance2)) := by
  have hset : s.owing.mon.prot.setBalance mode settings =
      { s.mon.prot with balanceMode := mode, manual1 := c1, manual2 := c2 } := by
    rw [Protection.setBalance]
    simp only [show s.owing.mon.prot = s.mon.prot from rfl, hheld]
  have hprot : u.mon.prot.balanceMode = mode ∧ u.mon.prot.manual1 = c1 ∧ u.mon.prot.manual2 = c2 := by
    rw [← hu, State.settleSwitches_prot]; exact ⟨rfl, rfl, rfl⟩
  obtain ⟨hmode, h1, h2⟩ := hprot
  have hexec : exec (.balanceSet tag arg) s = .next (s.request tag .control _) := rfl
  have hsettled : (s.owing.onProt fun p => p.setBalance mode settings).settleSwitches = u := by
    rw [← hu, State.onProt, hset]; rfl
  rw [hexec, State.request_of_takes htakes]
  simp only [hcheck, hsettled, hmode, h1, h2]
  rw [State.reply_of_pathUp hup]

end

/-- MANUAL holds the setting of a cell whose other cell's is off (R133). -/
theorem checkBalance_manual (a b : Bool) :
    checkBalance (.manual (some a) (some b)) = some (.manual, some (a && !b, b && !a)) := by
  cases a <;> cases b <;> rfl

/-! ### PROTECT SETUP (R134) -/

/-- The test of PROTECT SETUP, told of the ranges. -/
theorem protectInRange_iff (a : ProtectArgs) :
    (within a.scMa 4000 24000 && within a.scSteps 1 63 && within a.docMa 500 15000 && within a.docMs 1 255 &&
      within a.cocMa 200 8000 && within a.cocMs 1 255 && within a.covMv 4200 4450 && within a.covMs 100 5000 &&
      within a.duvMv 2700 3300 &&
      (a.duvMs == 2000 || a.duvMs == 3000 || a.duvMs == 4000 || a.duvMs == 6000)) = true ↔ a.InRange := by
  simp [within, ProtectArgs.InRange, and_assoc, or_assoc]

theorem checkProtect_of_refused {a : ProtectArgs} (h : ¬a.InRange ∨ a.autoRecovery = none) : checkProtect a = none := by
  rcases hauto : a.autoRecovery with _ | auto
  · simp [checkProtect, hauto]
  · have hrange : ¬a.InRange := h.resolve_right (by simp [hauto])
    simp only [checkProtect, hauto, Option.bind_eq_bind, Option.bind_some, if_neg (mt (protectInRange_iff a).mp hrange)]

theorem checkProtect_of_good {a : ProtectArgs} (h : a.InRange) {auto : Bool} (hauto : a.autoRecovery = some auto) :
    checkProtect a = some
      ⟨a.scMa, a.scSteps, a.docMa, a.docMs, a.cocMa, a.cocMs, a.covMv, a.covMs, a.duvMv, a.duvMs, auto⟩ := by
  simp only [checkProtect, hauto, Option.bind_eq_bind, Option.bind_some, if_pos ((protectInRange_iff a).mpr h)]

section
variable {s : State} (htakes : s.Takes) (tag : Byte) {a : ProtectArgs}
include htakes

theorem exec_protectSetup_badArg (h : checkProtect a = none) :
    exec (.protectSetup tag a) s = .next (s.replied tag .badArg .none) := by
  refine State.exec_of_refusal htakes rfl ?_
  simp only [h]

variable {settings : ProtectSettings} (hcheck : checkProtect a = some settings)
include hcheck

theorem exec_protectSetup_busy (h : s.mon.prot.transfer ≠ none) :
    exec (.protectSetup tag a) s = .next (s.replied tag .busy .none) := by
  refine State.exec_of_refusal htakes rfl ?_
  simp only [hcheck]
  exact if_pos (Option.isSome_iff_ne_none.mpr h)

theorem exec_protectSetup_taken (h : s.mon.prot.transfer = none) :
    exec (.protectSetup tag a) s = .next
      { s.owing with path.link.protectTag := some tag, mon.prot.transfer := some ⟨settings, s.monNow + 2⟩ } := by
  have hfree : ¬s.owing.mon.prot.transfer.isSome = true := by simp [State.owing, h]
  have hexec : exec (.protectSetup tag a) s = .next (s.request tag .control _) := rfl
  rw [hexec, State.request_of_takes htakes]
  simp only [hcheck]
  rw [if_neg hfree]; rfl

end

/-! ### The end of the transfer (R134) -/

/-- The SC count at the comparator's judgement under the new settings (R125, R134). -/
theorem Protection.signalJudged_eq (p : Protection) (old new : Bool) :
    p.signalJudged old new =
      { p with
        scLeft := if old = new then p.scLeft
          else if new = false then none
          else if p.switches.discharge = true then some (50 * p.settings.scSteps) else p.scLeft } := by
  unfold signalJudged
  by_cases hsame : old = new
  · rw [if_pos hsame, if_pos hsame]
  · rw [if_neg hsame, if_neg hsame]
    cases new
    · rfl
    · exact p.signalRise_eq

section
variable {s : State}

/-- A path reset since the request has lost it, and nothing is owed (R134). -/
theorem State.answerProtect_of_lost (htag : s.path.link.protectTag = none) : s.answerProtect = s := by
  simp only [answerProtect, htag]

theorem State.answerProtect_of_owed {tag : Byte} (htag : s.path.link.protectTag = some tag) (hup : s.pathUp = true) :
    s.answerProtect = ({ s with path.link.protectTag := none } : State).answered tag .ok .none := by
  simp only [answerProtect, htag]
  exact answer_of_pathUp (s := { s with path.link.protectTag := none }) hup tag .ok

/-- The end of a transfer: every setting at once, the SC count as the comparator's signal is judged, and then the reply
that is still owed. -/
theorem exec_protectTransferExpiry {t : Transfer} {signal : Bool} (ht : s.mon.prot.transfer = some t)
    (harrives : s.nothingEarlier (s.monLeft t.deadline) = true) {u v : State} (hu : s.elapse (s.monLeft t.deadline) = u)
    (hv : { u with
      pins.scSignal := signal
      mon.prot.settings := t.settings
      mon.prot.transfer := none
      mon.prot.scLeft := if s.pins.scSignal = signal then u.mon.prot.scLeft
        else if signal = false then none
        else if s.mon.prot.switches.discharge = true then some (50 * t.settings.scSteps)
        else u.mon.prot.scLeft } = v) :
    exec (.protectTransferExpiry signal) s = .next v.answerProtect := by
  have hprot : u.mon.prot = { s.mon.prot with scLeft := s.mon.prot.scLeft.map (· - s.monLeft t.deadline) } := by
    rw [← hu, State.elapse_prot]
  have hpins : u.pins = s.pins := by
    obtain ⟨_, hpins, _⟩ := s.elapse_frame (s.monLeft t.deadline)
    rw [← hu, hpins]
  have hexec : exec (.protectTransferExpiry signal) s =
      .next (s.expiry (s.mon.prot.transfer.map fun t => s.monLeft t.deadline) _) := rfl
  rw [hexec, ht, Option.map_some, State.expiry_of_nothingEarlier harrives, hu, ← hv]
  simp only [State.onProt, State.onPins, Protection.signalJudged_eq, hprot, hpins, ht, Option.map_some,
    Option.getD_some]

end

/-- Settles O58: the rows of R132 and R133 by their refusals and effects, PROTECT SETUP by its check, and the end of its
transfer by whether a reply is still owed. -/
theorem protectionRequests : Obligations.ProtectionRequests := by
  refine ⟨fun s tag htakes => ⟨?_, ?_, ?_, fun hcut hlock => ?_⟩,
    fun s tag htakes => ⟨?_, fun b => ⟨?_, ?_⟩, ?_⟩,
    fun s tag a htakes => ⟨fun hbad => ?_, fun auto hgood hauto => ⟨?_, ?_⟩⟩, fun s t signal ht harrives => ?_⟩
  · exact State.exec_of_refusal htakes rfl rfl
  · exact exec_dischargeSwitch_off htakes tag rfl
  · exact exec_dischargeSwitch_refused htakes tag
  · have hclear : ¬(s.mon.prot.duvCut || s.mon.prot.lockout) = true := by simp [hcut, hlock]
    exact ⟨exec_dischargeSwitch_heldOff htakes tag hclear, fun hfree =>
      exec_dischargeSwitch_on htakes tag hclear hfree rfl⟩
  · exact exec_balanceSet_refused htakes tag rfl
  · exact exec_balanceSet_refused htakes tag rfl
  · exact exec_balanceSet_refused htakes tag (by cases b <;> rfl)
  · rintro arg mode c1 c2 (⟨rfl, rfl, rfl, rfl⟩ | ⟨rfl, a, b, rfl, rfl, rfl⟩) u hup
    · exact exec_balanceSet_taken htakes tag (settings := none) rfl rfl (u := u) rfl hup
    · exact exec_balanceSet_taken htakes tag (checkBalance_manual a b) rfl (u := u) rfl hup
  · exact exec_protectSetup_badArg htakes tag (checkProtect_of_refused hbad)
  · exact exec_protectSetup_busy htakes tag (checkProtect_of_good hgood hauto)
  · exact exec_protectSetup_taken htakes tag (checkProtect_of_good hgood hauto)
  · intro u v
    obtain ⟨_, _, _, _, _, _, hlink, _, _, hpathUp⟩ := s.elapse_frame (s.monLeft t.deadline)
    have hlink : v.path.link = s.path.link := hlink
    have hpathUp : v.pathUp = s.pathUp := hpathUp
    rw [exec_protectTransferExpiry ht harrives rfl (v := v) rfl]
    exact ⟨fun htag => by rw [State.answerProtect_of_lost (hlink ▸ htag)],
      fun tag htag hup => by rw [State.answerProtect_of_owed (hlink ▸ htag) (hpathUp.trans hup)]⟩

end Sys2Proof.Machine
end

section
/-! PROOFS. Rail, setpoint and path domain under one supply (R147, R153, R154): first layer, what the law of power reads
of a state, and the operations that leave it as it is. -/

namespace Sys2Proof.Machine

/-- What the law of power reads of the monitor domain: what the rail hangs on and the rail, the path reset, the setpoint
beside the one that R147 gives, and the part of a millisecond. -/
structure Supply where
  discharge : Bool
  input : Bool
  railUp : Bool
  resetEnd : Option Time
  setpoint : Nat
  computed : Nat
  subMs : Nat

namespace State

/-- The supply of a state. -/
def supply (s : State) : Supply :=
  ⟨s.mon.prot.switches.discharge, s.mon.chg.inputPresent, s.mon.energy.railUp, s.mon.energy.resetEnd, s.mon.chg.setpoint,
    s.mon.chg.computeSetpoint, s.mon.conv.subMs⟩

/-- The law of power apart from the rail, which is settled last (R153). -/
def Supplied (s : State) : Prop :=
  s.mon.chg.setpoint = s.mon.chg.computeSetpoint ∧ (s.pathUp = false → s.path = .afterReset) ∧
  (s.mon.energy.resetEnd.isSome = true → s.mon.energy.railUp = true) ∧ s.mon.conv.subMs < 1000

theorem powerLaw_iff (s : State) :
    s.PowerLaw ↔
      s.mon.energy.railUp = (s.mon.prot.switches.discharge || s.mon.chg.inputPresent) ∧ s.Supplied := Iff.rfl

theorem notify_of_pathDown {s : State} (h : s.pathUp = false) (n : Notice) : s.notify n = s := by
  rcases s.notify_cases n with ⟨hup, _⟩ | ⟨_, heq⟩
  · rw [h] at hup; cases hup
  · exact heq

theorem reply_of_pathDown {s : State} (h : s.pathUp = false) (tag : Byte) (code : ReplyCode) (data : ReplyData) :
    s.reply tag code data = s := by
  rcases s.reply_cases tag code data with ⟨hup, _⟩ | ⟨_, heq⟩
  · rw [h] at hup; cases hup
  · exact heq

/-- A recomputed energy state of a path domain that is down hands it neither a notice nor a seal (R152). -/
theorem settleEnergy_path_of_pathDown {s : State} (h : s.pathUp = false) (cause : EnergyCause) :
    (s.settleEnergy cause).path = s.path := by
  by_cases hsame : s.computeEnergy = s.mon.energy.state
  · rw [settleEnergy_of_same hsame]
  · rw [settleEnergy_of_not_sealing hsame (.inr h), energyChanged,
      notify_of_pathDown (s := { s with mon.energy.state := s.computeEnergy }) h]

/-- Time that passes leaves a path domain that is down (R1). -/
theorem elapse_path_of_pathDown {s : State} (h : s.pathUp = false) (us : Nat) : (s.elapse us).path = s.path := by
  have hnow : (s.elapse us).now = s.now := by rw [elapse_now, h]; rfl
  rw [elapse_eq, hnow]; rfl

namespace Supplied
variable {s : State} (h : s.Supplied)
include h

theorem onProt (f : Protection → Protection) : (s.onProt f).Supplied := h

/-- A charger that has moved, with the setpoint after it (R147). -/
theorem onChg {f : Charger → Charger} (hset : (f s.mon.chg).setpoint = (f s.mon.chg).computeSetpoint) :
    (s.onChg f).Supplied := by
  obtain ⟨_, hdown, hreset, hsub⟩ := h
  exact ⟨hset, hdown, hreset, hsub⟩

/-- A rail settled completes the law: it holds, it returns with a path reset, or it is lost with the path domain
(R153). -/
theorem settleRail : s.settleRail.PowerLaw := by
  have ⟨hset, _, _, hsub⟩ := h
  rcases s.settleRail_cases with ⟨hrail, heq⟩ | ⟨hon, _, heq⟩ | ⟨hoff, _, heq⟩ <;> rw [heq]
  · exact ⟨hrail, h⟩
  · exact ⟨hon.symm, hset, fun _ => rfl, fun _ => rfl, hsub⟩
  · exact ⟨hoff.symm, hset, fun _ => rfl, nofun, hsub⟩

/-- The switches recomputed, with the rail after them (R129, R153). -/
theorem settleSwitches : s.settleSwitches.PowerLaw := (h.onProt _).settleRail

end Supplied

namespace PowerLaw
variable {s t : State} (h : s.PowerLaw)
include h

theorem supplied : s.Supplied := ((powerLaw_iff s).mp h).2

/-- The law reads the supply, and of the path domain only what a path domain that is down holds. -/
theorem of_supply (heq : t.supply = s.supply) (hpath : s.pathUp = false → t.path = s.path) : t.PowerLaw := by
  simp only [supply, Supply.mk.injEq] at heq
  obtain ⟨hdischarge, hinput, hrail, hreset, hset, hcomputed, hsub⟩ := heq
  obtain ⟨hrail', hset', hdown, hreset', hsub'⟩ := (powerLaw_iff s).mp h
  have hpathUp : t.pathUp = s.pathUp := by rw [pathUp, pathUp, hrail, hreset]
  refine (powerLaw_iff t).mpr ⟨?_, ?_, fun htdown => ?_, ?_, hsub ▸ hsub'⟩
  · rw [hrail, hdischarge, hinput, hrail']
  · rw [hset, hcomputed, hset']
  · have hsdown : s.pathUp = false := hpathUp.symm.trans htdown
    rw [hpath hsdown, hdown hsdown]
  · rw [hreset, hrail]; exact hreset'

/-! ### Operations that leave the supply -/

theorem elapse (us : Nat) : (s.elapse us).PowerLaw := by
  obtain ⟨hrail, hset, hdown, hreset, hsub⟩ := (powerLaw_iff s).mp h
  obtain ⟨_, _, _, _, _, _, _, hchg, henergy, hpathUp⟩ := s.elapse_frame us
  refine (powerLaw_iff _).mpr ⟨?_, ?_, fun htdown => ?_, ?_, ?_⟩
  · rw [henergy, elapse_prot, hchg]; exact hrail
  · rw [hchg]; exact hset
  · have hsdown : s.pathUp = false := hpathUp.symm.trans htdown
    rw [elapse_path_of_pathDown hsdown, hdown hsdown]
  · rw [henergy]; exact hreset
  · rcases s.elapse_cases us with ⟨_, heq⟩ | ⟨_, _, hpart, _⟩
    · rw [heq]; exact hsub
    · rw [hpart]; exact Nat.mod_lt _ (by decide)

theorem onPins (f : Pins → Pins) : (s.onPins f).PowerLaw := h

/-- A path domain that is up may move; the law reads nothing of it. -/
theorem onLink (hup : s.pathUp = true) (f : Link → Link) : (s.onLink f).PowerLaw :=
  h.of_supply rfl fun hdown => absurd (hdown.symm.trans hup) nofun

theorem onProt (f : Protection → Protection)
    (hswitch : (f s.mon.prot).switches = s.mon.prot.switches := by rfl) : (s.onProt f).PowerLaw :=
  h.of_supply (by simp [supply, hswitch]) fun _ => rfl

theorem onConv (f : Converter → Converter)
    (hsub : (f s.mon.conv).subMs = s.mon.conv.subMs := by rfl) : (s.onConv f).PowerLaw :=
  h.of_supply (by simp [supply, hsub]) fun _ => rfl

/-- The charger within one input, with the setpoint after it (R147). -/
theorem onChg {f : Charger → Charger} (hset : (f s.mon.chg).setpoint = (f s.mon.chg).computeSetpoint)
    (hinput : (f s.mon.chg).inputPresent = s.mon.chg.inputPresent := by rfl) : (s.onChg f).PowerLaw := by
  obtain ⟨hrail, hsupplied⟩ := (powerLaw_iff s).mp h
  have hrail' : s.mon.energy.railUp = (s.mon.prot.switches.discharge || (f s.mon.chg).inputPresent) := hinput ▸ hrail
  exact ⟨hrail', hsupplied.onChg hset⟩

/-- Charger fields that neither the rail nor the setpoint reads. -/
theorem onChgAside {f : Charger → Charger} (hset : (f s.mon.chg).setpoint = s.mon.chg.setpoint := by rfl)
    (hcomputed : (f s.mon.chg).computeSetpoint = s.mon.chg.computeSetpoint := by rfl)
    (hinput : (f s.mon.chg).inputPresent = s.mon.chg.inputPresent := by rfl) : (s.onChg f).PowerLaw := by
  obtain ⟨hsame, _⟩ := h.supplied
  exact h.onChg (hset.trans (hsame.trans hcomputed.symm)) hinput

theorem notify (n : Notice) : (s.notify n).PowerLaw :=
  h.of_supply (by simp [supply]) fun hdown => by rw [notify_of_pathDown hdown]

theorem reply (tag : Byte) (code : ReplyCode) (data : ReplyData) : (s.reply tag code data).PowerLaw :=
  h.of_supply (by simp [supply]) fun hdown => by rw [reply_of_pathDown hdown]

theorem answer (tag : Byte) (code : ReplyCode) : (s.answer tag code).PowerLaw := h.reply tag code .none

theorem settleEnergy (cause : EnergyCause) : (s.settleEnergy cause).PowerLaw :=
  h.of_supply (by simp [supply]) fun hdown => settleEnergy_path_of_pathDown hdown cause

theorem calibrate (charge : Int) : (s.calibrate charge).PowerLaw :=
  iteInduction (motive := State.PowerLaw) (fun _ => (h.onConv _).settleEnergy _) fun _ => h.onConv _

theorem countCharge (i : Int) : (s.countCharge i).PowerLaw :=
  iteInduction (motive := State.PowerLaw) (fun _ => (h.onConv _).settleEnergy _) fun _ => h.onConv _

/-! ### The shapes of a command -/

/-- A request is taken by a path domain that is up alone (R168). -/
theorem request {tag : Byte} {kind : RequestKind} {body : State → State}
    (hbody : ∀ u : State, u.pathUp = true → u.PowerLaw → (body u).PowerLaw) : (s.request tag kind body).PowerLaw := by
  rcases s.request_cases tag kind body with ⟨hup, _, heq⟩ | ⟨hup, _, heq⟩ | ⟨_, heq⟩ <;> rw [heq]
  · exact hbody _ hup (h.onLink hup _)
  · exact (h.onLink hup _).notify _
  · exact h

theorem expiry {left : Option Nat} {act : State → State} (hact : ∀ u : State, u.PowerLaw → (act u).PowerLaw) :
    (s.expiry left act).PowerLaw := by
  rcases s.expiry_cases left act with ⟨_, heq⟩ | ⟨_, _, _, heq⟩ | ⟨us, _, _, heq⟩ <;> rw [heq]
  · exact h
  · exact h
  · exact hact _ (h.elapse us)

/-- What a path domain that is up makes of itself leaves the supply. -/
theorem ends_whenUp {body : State → State} (hbody : (body s).supply = s.supply) :
    Ends State.PowerLaw (.next (s.whenUp body)) := by
  refine ends_next ?_
  rcases s.whenUp_cases body with ⟨hup, heq⟩ | ⟨_, heq⟩ <;> rw [heq]
  · exact h.of_supply hbody fun hdown => absurd (hdown.symm.trans hup) nofun
  · exact h

theorem ends_request {tag : Byte} {kind : RequestKind} {body : State → State}
    (hbody : ∀ u : State, (body u).supply = u.supply) : Ends State.PowerLaw (.next (s.request tag kind body)) :=
  ends_next (h.request fun u hup hu => hu.of_supply (hbody u) fun hdown => absurd (hdown.symm.trans hup) nofun)

theorem ends_pathExpiry {left : Option Nat} {act : State → State} (hact : ∀ u : State, (act u).supply = u.supply) :
    Ends State.PowerLaw (.next (s.whenUp fun s => s.expiry left act)) := by
  refine ends_next ?_
  rcases s.whenUp_cases fun s => s.expiry left act with ⟨hup, heq⟩ | ⟨_, heq⟩ <;> rw [heq]
  · rcases s.expiry_cases left act with ⟨_, heq⟩ | ⟨_, _, _, heq⟩ | ⟨us, _, _, heq⟩ <;> rw [heq]
    · exact h
    · exact h
    · obtain ⟨_, _, _, _, _, _, _, _, _, hpathUp⟩ := s.elapse_frame us
      exact (h.elapse us).of_supply (hact _) fun hdown => absurd (hdown.symm.trans (hpathUp.trans hup)) nofun
  · exact h

end PowerLaw
end State
end Sys2Proof.Machine
end

section
/-! PROOFS. Rail, setpoint and path domain under one supply, second layer: the operations of the monitor domain. Each that
moves a switch or the input settles the rail after it, and each that moves the charger recomputes the setpoint. -/

namespace Sys2Proof.Machine.State

namespace Supplied
variable {s : State} (h : s.Supplied)
include h

/-- The charger moved, with the demand and the setpoint after it, and then the switches (R137). -/
theorem charged (f : Charger → Charger) :
    ((s.onChg f).settleDemand.onChg Charger.settleSetpoint).settleSwitches.PowerLaw := by
  obtain ⟨_, hdown, hreset, hsub⟩ := h
  exact settleSwitches ⟨rfl, hdown, hreset, hsub⟩

/-- Input that comes or goes, with the rail after it (R136, R153). -/
theorem inputMoved (present : Bool) (count : Nat) :
    (s.onChg fun c => { c with inputPresent := present, highCount := count }).settleRail.PowerLaw := by
  obtain ⟨hset, hdown, hreset, hsub⟩ := h
  exact settleRail ⟨hset, hdown, hreset, hsub⟩

end Supplied

namespace PowerLaw
variable {s : State} (h : s.PowerLaw)
include h

/-! ### Trips, and input at the protection unit (R130, R131) -/

/-- Latches that have moved, with the switches and the rail after them. -/
theorem relatched (f : Protection → Protection) : (s.onProt f).settleSwitches.PowerLaw :=
  (h.supplied.onProt f).settleSwitches

theorem dischargeTrip (c : Condition) (m : Option Int) : (s.dischargeTrip c m).PowerLaw := (h.relatched _).notify _

theorem chargeTrip : s.chargeTrip.PowerLaw := (h.relatched _).notify _

theorem noticeClear (c : Cleared) (cause : ClearCause) : (s.noticeClear c cause).PowerLaw := h.notify _

theorem protectInput : s.protectInput.PowerLaw := by
  unfold State.protectInput
  dsimp only
  (repeat' split)
  · exact ((h.relatched _).noticeClear _ _).noticeClear _ _
  · exact (h.relatched _).noticeClear _ _
  · exact (h.relatched _).noticeClear _ _
  · exact h.relatched _
  · exact h

/-- The reply owed to a PROTECT SETUP: a path domain that is down or in reset owes none (R134, R154). -/
theorem answerProtect : s.answerProtect.PowerLaw := by
  obtain ⟨_, hdown, _⟩ := h.supplied
  unfold State.answerProtect
  split
  · exact h
  next htag =>
    cases hup : s.pathUp
    · rw [hdown hup] at htag; cases htag
    · exact (h.onLink hup _).answer _ _

/-! ### Charger -/

theorem settleIccEff : s.settleIccEff.PowerLaw := h.onChg rfl

theorem moveCharger (new : ChargerState) (cause : ChargerCause) (causes : HoldCauses) :
    (s.moveCharger new cause causes).PowerLaw := by
  unfold State.moveCharger
  dsimp only
  (repeat' split)
  · exact h
  · exact ((h.supplied.charged _).notify _).calibrate _
  · exact (h.supplied.charged _).notify _

theorem beginHold (cause : HoldCause) : (s.beginHold cause).PowerLaw := by
  unfold State.beginHold
  (repeat' split)
  · exact h.moveCharger _ _ _
  · exact h.onChgAside
  · exact h

theorem endHold (cause : HoldCause) : (s.endHold cause).PowerLaw := by
  unfold State.endHold
  dsimp only
  (repeat' split)
  · exact h.onChgAside.moveCharger _ _ _
  · exact h.onChgAside
  · exact h

theorem chargerBattTemp (t : Int) : (s.chargerBattTemp t).PowerLaw := by
  unfold State.chargerBattTemp
  dsimp only
  (repeat' split)
  · exact h.onChgAside.settleIccEff.beginHold _
  · exact h.onChgAside.settleIccEff.endHold _
  · exact h.onChgAside.settleIccEff

theorem setDieHot (hot : Bool) : (s.setDieHot hot).PowerLaw := by
  unfold State.setDieHot
  dsimp only
  (repeat' split)
  · exact h.onChgAside.settleIccEff.beginHold _
  · exact h.onChgAside.settleIccEff.endHold _
  · exact h.onChgAside.settleIccEff

theorem chargerCell : s.chargerCell.PowerLaw := by
  obtain ⟨hset, _⟩ := h.supplied
  have hdemand : s.settleDemand.settleSwitches.PowerLaw := (h.supplied.onChg hset).settleSwitches
  unfold State.chargerCell
  (repeat' split)
  · exact h.moveCharger _ _ _
  · exact h
  · exact h.moveCharger _ _ _
  · exact h
  · exact hdemand
  · exact h.moveCharger _ _ _
  · exact hdemand
  · exact h

theorem chargerCurrent (i : Int) : (s.chargerCurrent i).PowerLaw := by
  unfold State.chargerCurrent
  dsimp only
  split
  · refine iteInduction (motive := State.PowerLaw) (fun _ => ?_) fun _ => ?_
    · exact h.onChgAside.moveCharger _ _ _
    · exact h.onChgAside
  · exact h

theorem inputAbsent : s.inputAbsent.PowerLaw := ((h.supplied.inputMoved false 0).moveCharger _ _ _).settleEnergy _

theorem inputPresent : s.inputPresent.PowerLaw := by
  have hmoved := h.supplied.inputMoved true 3
  refine (protectInput ?_).settleEnergy _
  exact iteInduction (motive := State.PowerLaw) (fun _ => hmoved.moveCharger _ _ _) fun _ => hmoved

theorem judgeInput (mv : Int) : (s.judgeInput mv).PowerLaw := by
  unfold State.judgeInput
  (repeat' split)
  · exact h.inputAbsent
  · exact h
  · exact h.inputPresent
  · exact h.onChgAside
  · exact h.onChgAside

theorem chargerInput (mv : Int) : (s.chargerInput mv).PowerLaw :=
  iteInduction (motive := State.PowerLaw) (fun _ => (h.judgeInput mv).onChg rfl) fun _ => h.judgeInput mv

/-! ### Cells, results and visits -/

theorem evalCov : s.evalCov.PowerLaw := by
  unfold State.evalCov
  (repeat' split)
  · exact ((h.relatched _).noticeClear _ _).endHold _
  · exact h
  · exact h.onProt _

theorem endWarning : s.endWarning.PowerLaw :=
  iteInduction (motive := State.PowerLaw) (fun _ => (h.onProt _).settleEnergy _) fun _ => h

theorem evalDuv : s.evalDuv.PowerLaw := by
  unfold State.evalDuv
  dsimp only
  (repeat' split)
  · exact h
  · exact h.onProt _
  · exact h
  · exact (h.onProt _).endWarning
  · exact h

theorem takeCurrent (i : Int) : (s.takeCurrent i).PowerLaw := (((h.onConv _).countCharge i).onProt _).chargerCurrent i

theorem handOn (c : Channel) (v : Int) : (s.handOn c v).PowerLaw := by
  have hcell : (s.evalCells.chargerCell.settleEnergy .cell).PowerLaw := h.evalCov.evalDuv.chargerCell.settleEnergy _
  cases c with
  | cell1 => exact hcell
  | cell2 => exact hcell
  | input => exact h.chargerInput v
  | battTemp => exact h.chargerBattTemp v
  | dieTemp => exact h.setDieHot _
  | pack => exact h
  | current => exact h

theorem endVisit : s.endVisit.PowerLaw := by
  unfold State.endVisit
  split
  · exact h.onConv _
  · exact iteInduction (motive := State.PowerLaw) (fun _ => (h.onConv _).setDieHot _) fun _ => h.onConv _

/-! ### Path reset (R156, R157) -/

/-- A path reset that begins under a rail that is UP (R154, R156). -/
theorem beginPathReset (hrail : s.mon.energy.railUp = true) (cause : ResetCause) : (s.beginPathReset cause).PowerLaw := by
  obtain ⟨hon, hset, _, _, hsub⟩ := (powerLaw_iff s).mp h
  exact ⟨hon, hset, fun _ => rfl, fun _ => hrail, hsub⟩

/-- A path domain that leaves reset is up, for a path reset runs only under a rail that is UP (R153, R156). -/
theorem leaveReset {t : State} (hreset : s.mon.energy.resetEnd.isSome = true)
    (hmon : t.mon = { s.mon with energy := { s.mon.energy with resetEnd := none, retained := [] } }) : t.PowerLaw := by
  obtain ⟨hon, hset, _, hrail, hsub⟩ := (powerLaw_iff s).mp h
  have hup : t.pathUp = true := by rw [pathUp, hmon]; exact Bool.and_eq_true_iff.mpr ⟨hrail hreset, rfl⟩
  refine (powerLaw_iff t).mpr ⟨?_, ?_, fun hdown => absurd (hdown.symm.trans hup) nofun, ?_, ?_⟩
  · rw [hmon]; exact hon
  · rw [hmon]; exact hset
  · rw [hmon]; exact nofun
  · rw [hmon]; exact hsub

end PowerLaw
end Sys2Proof.Machine.State
end

section
/-! PROOFS. The law of power (O13): every command, by the shape it has. -/

namespace Sys2Proof.Machine
namespace State.PowerLaw
variable {s : State} (h : s.PowerLaw)
include h

/-! ### The commands of the monitor domain -/

theorem ends_currentResult (milliamps : Int) : Ends State.PowerLaw (execCurrentResult milliamps s) := by
  have htaken : State.PowerLaw (if 0 < s.mon.conv.settling then s.onConv fun c => { c with settling := c.settling - 1 }
      else s.takeCurrent (holdResult .current milliamps)) :=
    iteInduction (motive := State.PowerLaw) (fun _ => h.onConv _) fun _ => h.takeCurrent _
  refine ends_next (htaken.onConv _ ?_)
  unfold Converter.takeRate
  (repeat' split) <;> rfl

theorem ends_voltageResult (value : Int) : Ends State.PowerLaw (execVoltageResult value s) := by
  refine ends_next ?_
  (repeat' split)
  · exact h.onConv _
  · exact h
  · exact ((h.onConv _).handOn _ _).endVisit

theorem ends_duvCutExpiry : Ends State.PowerLaw (execDuvCutExpiry s) :=
  ends_next (h.expiry fun _ hu => ((hu.endWarning.relatched _).calibrate _).notify _)

theorem ends_dischargeSwitch (tag : Byte) (on : Option Bool) : Ends State.PowerLaw (execDischargeSwitch tag on s) := by
  refine ends_next (h.request fun u _ hu => ?_)
  (repeat' split)
  · exact hu.answer _ _
  · exact (hu.relatched _).answer _ _
  · exact hu.answer _ _
  · exact hu.answer _ _
  · exact (hu.relatched _).answer _ _

theorem ends_balanceSet (tag : Byte) (mode : BalanceArg) : Ends State.PowerLaw (execBalanceSet tag mode s) := by
  refine ends_next (h.request fun u _ hu => ?_)
  split
  · exact hu.answer _ _
  · exact (hu.relatched _).reply _ _ _

theorem ends_protectTransferExpiry (signal : Bool) : Ends State.PowerLaw (execProtectTransferExpiry signal s) := by
  refine ends_next (h.expiry fun u hu => (answerProtect ?_))
  refine (hu.onProt _ ?_).onPins _
  simpa [Protection.latched] using congrArg Protection.switches (Protection.latched_signalJudged _ _ _)

theorem ends_chargeInhibit (tag : Byte) (on : Option Bool) : Ends State.PowerLaw (execChargeInhibit tag on s) := by
  refine ends_next (h.request fun u _ hu => ?_)
  split
  · exact hu.answer _ _
  all_goals
    refine answer ?_ _ _
    split
  · exact hu.onChgAside
  · exact hu.onChgAside.moveCharger _ _ _
  · exact hu.onChgAside.moveCharger _ _ _
  · exact hu.onChgAside

theorem ends_chargeSetup (tag : Byte) (args : ChargeSettings) : Ends State.PowerLaw (execChargeSetup tag args s) := by
  refine ends_next (h.request fun u _ hu => ?_)
  split
  · exact hu.onChgAside.settleIccEff.answer _ _
  · exact hu.answer _ _

theorem ends_qualifyDeadlineExpiry : Ends State.PowerLaw (execQualifyDeadlineExpiry s) := by
  refine ends_next (h.expiry fun u hu => ?_)
  dsimp only
  (repeat' split)
  all_goals exact hu.onChgAside.moveCharger _ _ _

/-! ### Reset -/

theorem ends_pathReset (tag : Byte) (force : Option Bool) : Ends State.PowerLaw (execPathReset tag force s) := by
  refine ends_next (h.request fun u hup hu => ?_)
  (repeat' split)
  · exact hu.answer _ _
  · exact hu.answer _ _
  · exact hu.beginPathReset (u.railUp_of_pathUp hup) _

theorem ends_pathResetEnd : Ends State.PowerLaw (execPathResetEnd s) := by
  refine ends_next ?_
  rcases s.expiry_cases (s.mon.energy.resetEnd.map s.monLeft) _ with ⟨_, heq⟩ | ⟨_, _, _, heq⟩ | ⟨us, hset, _, heq⟩ <;>
    rw [heq]
  · exact h
  · exact h
  · have hreset : (s.elapse us).mon.energy.resetEnd.isSome = true := by
      obtain ⟨d, hd, _⟩ := Option.map_eq_some_iff.mp hset
      simp [hd]
    refine (h.elapse us).leaveReset hreset ?_
    simp only [chooseUnit_frame]
    rfl

end State.PowerLaw

/-! ### Every command -/

/-- Every command keeps the law of power: those of the path domain and those that only answer leave the supply, and those
of the monitor domain settle rail and setpoint after what they move. -/
theorem exec_keeps_powerLaw {c : Instr} {s : State} (h : s.PowerLaw) : Ends State.PowerLaw (exec c s) := by
  cases c with
  | powerOnReset => exact ends_next powerLaw_reset
  | pathResetEnd => exact h.ends_pathResetEnd
  | pathReset tag force => exact h.ends_pathReset tag force
  | currentResult milliamps => exact h.ends_currentResult milliamps
  | voltageResult value => exact h.ends_voltageResult value
  | scComparatorRise =>
    have hswitches : s.mon.prot.signalRise.switches = s.mon.prot.switches := by rw [Protection.signalRise_eq]
    exact ends_next ((h.onProt _ hswitches).onPins _)
  | scComparatorFall => exact ends_next ((h.onProt _).onPins _)
  | scDelayExpiry => exact ends_next (h.expiry fun _ hu => hu.dischargeTrip _ _)
  | docTimerExpiry => exact ends_next (h.expiry fun _ hu => hu.dischargeTrip _ _)
  | cocTimerExpiry => exact ends_next (h.expiry fun _ hu => hu.chargeTrip)
  | covTimerExpiry => exact ends_next (h.expiry fun _ hu => ((hu.relatched _).notify _).beginHold _)
  | duvWarningExpiry => exact ends_next (h.expiry fun _ hu => (hu.onProt _).settleEnergy _)
  | duvCutExpiry => exact h.ends_duvCutExpiry
  | dischargeHoldoffExpiry => exact ends_next (h.expiry fun _ hu => (hu.relatched _).noticeClear _ _)
  | chargeHoldoffExpiry => exact ends_next (h.expiry fun _ hu => (hu.relatched _).noticeClear _ _)
  | dischargeSwitch tag on => exact h.ends_dischargeSwitch tag on
  | balanceSet tag mode => exact h.ends_balanceSet tag mode
  | protectTransferExpiry signal => exact h.ends_protectTransferExpiry signal
  | chargeInhibit tag on => exact h.ends_chargeInhibit tag on
  | chargeSetup tag args => exact h.ends_chargeSetup tag args
  | qualifyDeadlineExpiry => exact h.ends_qualifyDeadlineExpiry
  | prechargeTimerExpiry => exact ends_next (h.expiry fun _ hu => hu.moveCharger _ _ _)
  | fastTimerExpiry => exact ends_next (h.expiry fun _ hu => hu.moveCharger _ _ _)
  | zeroDeadlineExpiry => exact ends_next (h.expiry fun _ hu => hu.onChgAside.beginHold _)
  | weakClearExpiry => exact ends_next (h.expiry fun _ hu => hu.onChgAside.endHold _)
  | cardDetectRise => exact (h.onPins _).ends_whenUp (by split <;> simp [State.supply])
  | cardDetectFall => exact (h.onPins _).ends_whenUp (by split <;> simp [State.supply])
  | imuSilent | shockHoldExpiry | sensorStall | cardDebounceExpiry | startDeadlineExpiry =>
    exact h.ends_pathExpiry fun u => by simp [State.supply]
  | busyTimeout | cardResponseTimeout => exact h.ends_pathExpiry fun u => by (repeat' split) <;> simp [State.supply]
  | readWaitTimeout => exact h.ends_pathExpiry fun u => by dsimp only; split <;> simp [State.supply]
  | motionSetup | imuWrite | imuRead | lensTable | steadyMode | recenter | loadGeometry | clipArm | extentAdd | clipStart
  | clipStop | clipDrop | cardRescan | cardSetup | cardRead | currentRate | scanList | counterSet | protectSetup
  | unknownRequest | identify | statusRead | energyRead | controlPayloadFailure =>
    exact h.ends_request fun u => by (repeat' split) <;> simp [State.supply]
  | dataReadyEdge | sampleIntegration | imuWriteDone | imuReadDone | lineUnit | frameEndUnit | clipData | plainWrite
  | cardStartResponse | transactionBegin | cardCommandResponse | busyEnd | readBlockReceived | retryBegin
  | bufferHandback | closingPad | summaryBuild | headerError | upstreamUnitSent =>
    exact h.ends_whenUp (by (repeat' split) <;> simp [State.supply])
  | sampleReadComplete | frameStartUnit | writeBlockAck =>
    exact h.ends_whenUp (by dsimp only; (repeat' split) <;> simp [State.supply])

/-- Settles O13: every command keeps the law by exec_keeps_powerLaw, and so does a microsecond that passes; the queue is
nothing that the law reads. -/
theorem powerLawIsKept : Obligations.PowerLawIsKept :=
  kept_of_exec (fun _ _ t h hexec => exec_keeps_powerLaw h t hexec) (fun _ _ h => h) fun _ h => h.elapse 1

end Sys2Proof.Machine
end

section
/-! PROOFS. A change of the charger state (R137 to R143, R145 to R148), in closed form. -/

namespace Sys2Proof.Machine

/-- A charger that has left one state and entered another, with its demand, and the setpoint after both (R137). -/
def Charger.moved (c : Charger) (new : ChargerState) (now : Time) (causes : HoldCauses) (demand : Demand) : Charger :=
  Charger.settleSetpoint { (c.leave new now).enter new now causes with demand := demand }

namespace Charger
variable (c : Charger) (new : ChargerState) (now : Time) (causes : HoldCauses)

theorem enter_demand : (c.enter new now causes).demand = c.demand := by cases new <;> rfl

/-- The fields that each state entered rewrites (R137 to R143, R145 to R147). What a timer makes of leaving
and entering is named by kept and run. -/
theorem moved_eq (demand : Demand) {kept : ChargeTimer → ChargeTimer} {run : ChargeTimer → Nat → ChargeTimer}
    (hkept : ∀ t, kept t = if new = .qualify ∨ new = .hold then t.pause now else t)
    (hrun : ∀ t minutes, run t minutes = t.resume now (minutesMs minutes)) :
    c.moved new now causes demand =
      { c with
        state := new
        qualify := if new = .noInput ∨ new = .inhibited then none
          else if new = .qualify then some (now + 500) else c.qualify
        prechargeTimer := if (new = .noInput ∨ new = .inhibited) ∨ new = .done ∨ new = .fault then .absent
          else if c.state = .precharge ∧ new = .cc then .absent
          else if new = .precharge then run c.prechargeTimer c.settings.prechargeMin else kept c.prechargeTimer
        fastTimer := if (new = .noInput ∨ new = .inhibited) ∨ new = .done ∨ new = .fault then .absent
          else if new = .cc then run c.fastTimer c.settings.fastMin else kept c.fastTimer
        zero := if (new = .noInput ∨ new = .inhibited) ∨ c.state = .cc ∨ new = .cc ∨ new = .cv ∨ new = .hold then none
          else c.zero
        weakClear := if new = .noInput ∨ new = .inhibited then none else c.weakClear
        causes := if (new = .noInput ∨ new = .inhibited) ∨ new = .qualify then .empty
          else if new = .hold then causes else c.causes
        lowCount := if (new = .noInput ∨ new = .inhibited) ∨ new = .cv ∨ new = .done then 0 else c.lowCount
        iFloor := if new = .cc then c.iccEff else c.iFloor
        setpoint := if new = .cc then c.iccEff else 0
        demand := demand } := by
  cases new <;>
    simp [moved, leave, enter, clearAll, settleSetpoint, computeSetpoint, hkept, hrun, later, Config.qualifyMs]

end Charger

namespace State
variable {s : State} {new : ChargerState}

theorem moveCharger_of_same (h : s.mon.chg.state = new) (cause : ChargerCause) (causes : HoldCauses) :
    s.moveCharger new cause causes = s := by rw [moveCharger, if_pos h]

/-- A change of state in its one order: the charger with its demand and setpoint, the switches, the notice, and at DONE
the calibration to full (R137, R142). -/
theorem moveCharger_of_ne (h : s.mon.chg.state ≠ new) (cause : ChargerCause) (causes : HoldCauses) {c : Charger}
    (hc : s.mon.chg.moved new s.monNow causes
      (if new = .cv ∨ new = .done then nextDemand s.mon.chg.demand (s.latest .cell1) (s.latest .cell2) else .none) = c)
    {u : State}
    (hu : ({ s with mon.chg := c }.settleSwitches).notify
      (.chargerState new s.mon.chg.state cause c.causes c.setpoint s.monNow) = u) :
    s.moveCharger new cause causes =
      if new = .done then u.calibrate ((s.mon.conv.capacity : Int) * 1000) else u := by
  have hmoved : ((s.onChg fun c => (c.leave new s.monNow).enter new s.monNow causes).settleDemand.onChg
      Charger.settleSetpoint) = { s with mon.chg := c } := by
    rw [← hc]
    simp only [settleDemand, onChg, Charger.moved, Charger.enter_state, Charger.enter_demand]
    rfl
  obtain ⟨_, _, hconv, hchg, _, hnow⟩ := ({ s with mon.chg := c } : State).settleSwitches_frame
  obtain ⟨_, _, hmon, _⟩ := ({ s with mon.chg := c } : State).settleSwitches.notify_frame
    (.chargerState new s.mon.chg.state cause c.causes c.setpoint s.monNow)
  have hcapacity : u.mon.conv.capacity = s.mon.conv.capacity := by rw [← hu, hmon, hconv]
  rw [moveCharger, if_neg h]
  dsimp only
  rw [hmoved, hchg, hnow, ← hcapacity, ← hu]
  rfl

end State
end Sys2Proof.Machine
end

section
/-! PROOFS. The events that change the charger state: holds, the expiries of the charger's deadlines, and the cells (R139 to
R142, R145, R146, R148). -/

namespace Sys2Proof.Machine

/-! ### Holds (R145) -/

theorem ChargerState.charging_iff (c : ChargerState) : c.charging = true ↔ c = .precharge ∨ c = .cc ∨ c = .cv := by
  simp [charging, or_assoc]

theorem HoldCauses.isEmpty_iff (c : HoldCauses) : c.isEmpty = true ↔ c = .empty := by
  obtain ⟨temp, die, cov, weak⟩ := c
  simp [isEmpty, empty, and_assoc]

theorem nextDemand_of_unknown {held : Demand} {cell1 cell2 : Option Int} (h : cell1 = none ∨ cell2 = none) :
    nextDemand held cell1 cell2 = .none := by
  rcases h with rfl | rfl
  · rfl
  · cases cell1 <;> rfl

namespace State
variable {s : State}

section
variable (cause : HoldCause)

theorem beginHold_of_charging (h : s.mon.chg.state = .precharge ∨ s.mon.chg.state = .cc ∨ s.mon.chg.state = .cv) :
    s.beginHold cause = s.moveCharger .hold .holdEntered (HoldCauses.empty.put cause true) :=
  if_pos ((ChargerState.charging_iff _).mpr h)

theorem beginHold_of_hold (h : s.mon.chg.state = .hold) :
    s.beginHold cause = { s with mon.chg.causes := s.mon.chg.causes.put cause true } := by
  have hnot : ¬s.mon.chg.state.charging = true := by rw [h]; decide
  rw [beginHold, if_neg hnot, if_pos h]; rfl

theorem beginHold_of_other (hprecharge : s.mon.chg.state ≠ .precharge) (hcc : s.mon.chg.state ≠ .cc)
    (hcv : s.mon.chg.state ≠ .cv) (hhold : s.mon.chg.state ≠ .hold) : s.beginHold cause = s := by
  have hnot : ¬s.mon.chg.state.charging = true := by simp [ChargerState.charging_iff, hprecharge, hcc, hcv]
  rw [beginHold, if_neg hnot, if_neg hhold]

theorem endHold_of_hold (h : s.mon.chg.state = .hold) {causes : HoldCauses}
    (hcauses : s.mon.chg.causes.put cause false = causes) :
    s.endHold cause =
      if causes = .empty then ({ s with mon.chg.causes := causes } : State).moveCharger .qualify .holdCleared .empty
      else { s with mon.chg.causes := causes } := by
  subst hcauses
  rw [endHold, if_pos h]
  exact if_congr (HoldCauses.isEmpty_iff _) rfl rfl

theorem endHold_of_other (h : s.mon.chg.state ≠ .hold) : s.endHold cause = s := if_neg h

end

/-! ### The expiries of the charger's deadlines -/

section
variable {d : Time} (harrives : s.nothingEarlier (s.monLeft d) = true) {u : State} (hu : s.elapse (s.monLeft d) = u)
include harrives hu

/-- The end of QUALIFY: HOLD with the causes that stand, PRECHARGE, or CC (R139). -/
theorem exec_qualifyDeadlineExpiry (hqualify : s.mon.chg.qualify = some d) {v : State}
    (hv : { u with mon.chg.qualify := none } = v) {bad : Prop} [Decidable bad]
    (hbad : bad ↔ s.mon.chg.windowInside = false ∨ s.mon.chg.dieHot = true ∨ s.mon.prot.covBlocking = true) :
    exec .qualifyDeadlineExpiry s = .next
      (if bad then
        v.moveCharger .hold .holdEntered ⟨!s.mon.chg.windowInside, s.mon.chg.dieHot, s.mon.prot.covBlocking, false⟩
      else if atLeast s.lowerCell s.mon.chg.settings.prechargeMv then v.moveCharger .cc .qualified .empty
      else v.moveCharger .precharge .qualified .empty) := by
  obtain ⟨_, _, _, _, _, _, _, hchg, _⟩ := s.elapse_frame (s.monLeft d)
  have hprot : u.mon.prot.covBlocking = s.mon.prot.covBlocking := by rw [← hu, elapse_prot]
  have hcell : v.lowerCell = s.lowerCell := lowerCell_congr (by rw [← hv, ← hu]; exact elapse_histories _)
  have hempty : (!(⟨!s.mon.chg.windowInside, s.mon.chg.dieHot, s.mon.prot.covBlocking, false⟩ : HoldCauses).isEmpty) =
      true ↔ bad := by
    rw [hbad]; simp [HoldCauses.isEmpty, or_assoc]
  rw [exec_of_expiry rfl (congrArg (Option.map s.monLeft) hqualify) harrives, hu]
  rw [hu] at hchg
  have hset : (u.onChg fun c => { c with qualify := none }) = v := hv
  have hchg' : v.mon.chg = { s.mon.chg with qualify := none } := by rw [← hv, ← hchg]
  have hprot' : v.mon.prot.covBlocking = s.mon.prot.covBlocking := by rw [← hv]; exact hprot
  simp only [hset, hchg', hprot', hempty, hcell, below]
  cases atLeast s.lowerCell s.mon.chg.settings.prechargeMv <;> rfl

theorem exec_prechargeTimerExpiry (hrunning : s.mon.chg.prechargeTimer = .running d) :
    exec .prechargeTimerExpiry s = .next (u.moveCharger .fault .prechargeTimer .empty) := by
  rw [exec_of_expiry rfl (congrArg (fun t => (ChargeTimer.deadline t).map s.monLeft) hrunning) harrives, hu]

theorem exec_fastTimerExpiry (hrunning : s.mon.chg.fastTimer = .running d) :
    exec .fastTimerExpiry s = .next (u.moveCharger .fault .fastTimer .empty) := by
  rw [exec_of_expiry rfl (congrArg (fun t => (ChargeTimer.deadline t).map s.monLeft) hrunning) harrives, hu]

/-- The input has been too weak for CC: HOLD with that cause, and the deadline that clears it (R146). -/
theorem exec_zeroDeadlineExpiry (hzero : s.mon.chg.zero = some d) (hcc : s.mon.chg.state = .cc) :
    exec .zeroDeadlineExpiry s = .next
      (({ u with mon.chg.zero := none, mon.chg.weakClear := some (u.monNow + 5000) } : State).moveCharger .hold
        .holdEntered ⟨false, false, false, true⟩) := by
  obtain ⟨_, _, _, _, _, _, _, hchg, _⟩ := s.elapse_frame (s.monLeft d)
  have hstate : u.mon.chg.state = .cc := by rw [← hu, hchg, hcc]
  rw [exec_of_expiry rfl (congrArg (Option.map s.monLeft) hzero) harrives, hu]
  exact congrArg Host.Outcome.next (beginHold_of_charging .inputWeak (.inr (.inl hstate)))

variable (hweak : s.mon.chg.weakClear = some d)
include hweak

theorem exec_weakClearExpiry :
    exec .weakClearExpiry s = .next (({ u with mon.chg.weakClear := none } : State).endHold .inputWeak) := by
  rw [exec_of_expiry rfl (congrArg (Option.map s.monLeft) hweak) harrives, hu]; rfl

theorem exec_weakClearExpiry_outside_hold (h : s.mon.chg.state ≠ .hold) :
    exec .weakClearExpiry s = .next { u with mon.chg.weakClear := none } := by
  obtain ⟨_, _, _, _, _, _, _, hchg, _⟩ := s.elapse_frame (s.monLeft d)
  have hstate : u.mon.chg.state ≠ .hold := by rwa [← hu, hchg]
  rw [exec_weakClearExpiry harrives hu hweak]
  exact congrArg Host.Outcome.next (endHold_of_other .inputWeak hstate)

/-- The input's cause leaves the hold, which ends where it was the last (R145, R146). -/
theorem exec_weakClearExpiry_in_hold (h : s.mon.chg.state = .hold) {v : State}
    (hv : { u with mon.chg.weakClear := none, mon.chg.causes.inputWeak := false } = v) :
    exec .weakClearExpiry s = .next
      (if s.mon.chg.causes.temp || s.mon.chg.causes.die || s.mon.chg.causes.cov then v
      else v.moveCharger .qualify .holdCleared .empty) := by
  obtain ⟨_, _, _, _, _, _, _, hchg, _⟩ := s.elapse_frame (s.monLeft d)
  rw [hu] at hchg
  have hstate : u.mon.chg.state = .hold := by rw [hchg, h]
  have hfurther : ¬u.mon.chg.causes.put .inputWeak false = .empty ↔
      (s.mon.chg.causes.temp || s.mon.chg.causes.die || s.mon.chg.causes.cov) = true := by
    rw [hchg, ← HoldCauses.isEmpty_iff, Bool.not_eq_true, HoldCauses.isEmpty, Bool.not_eq_false', HoldCauses.put,
      Bool.or_false]
  rw [exec_weakClearExpiry harrives hu hweak, endHold_of_hold (s := { u with mon.chg.weakClear := none }) _ hstate rfl,
    ← ite_not, ← hv]
  exact congrArg Host.Outcome.next (if_congr hfurther rfl rfl)

end

/-! ### The cells (R140 to R142, R148) -/

theorem chargerCell_of_precharge (h : s.mon.chg.state = .precharge) :
    s.chargerCell =
      if atLeast s.lowerCell ((s.mon.chg.settings.prechargeMv : Int) + 100) then s.moveCharger .cc .prechargeDone .empty
      else s := by
  rw [chargerCell, h]

theorem chargerCell_of_cc (h : s.mon.chg.state = .cc) :
    s.chargerCell =
      if atLeast s.higherCell s.mon.chg.settings.vcv then s.moveCharger .cv .cvReached .empty else s := by
  rw [chargerCell, h]

theorem chargerCell_of_drained (h : s.mon.chg.state = .done)
    (hlow : atLeast s.higherCell ((s.mon.chg.settings.vcv : Int) - 150) = false) :
    s.chargerCell = s.moveCharger .qualify .recharge .empty := by
  have hbelow : below s.higherCell ((s.mon.chg.settings.vcv : Int) - 150) = true := by rw [below, hlow]; rfl
  rw [chargerCell, h]
  exact if_pos hbelow

/-- In CV, and in DONE without a recharge, the demand follows the cells, with the switches after it (R148). -/
theorem chargerCell_of_balancing (h : s.mon.chg.state = .cv ∨
      (s.mon.chg.state = .done ∧ atLeast s.higherCell ((s.mon.chg.settings.vcv : Int) - 150) = true)) :
    s.chargerCell = ({ s with
      mon.chg.demand := nextDemand s.mon.chg.demand (s.latest .cell1) (s.latest .cell2) } : State).settleSwitches := by
  have hdemand : s.mon.chg.state = .cv ∨ s.mon.chg.state = .done := h.imp id And.left
  have hsettled : s.settleDemand = { s with
      mon.chg.demand := nextDemand s.mon.chg.demand (s.latest .cell1) (s.latest .cell2) } := by
    simp only [settleDemand, onChg, if_pos hdemand]
  rw [← hsettled]
  rcases h with hcv | ⟨hdone, hhigh⟩
  · rw [chargerCell, hcv]
  · have hnot : ¬below s.higherCell ((s.mon.chg.settings.vcv : Int) - 150) = true := by rw [below, hhigh]; decide
    rw [chargerCell, hdone]
    exact if_neg hnot

theorem chargerCell_of_other (hprecharge : s.mon.chg.state ≠ .precharge) (hcc : s.mon.chg.state ≠ .cc)
    (hcv : s.mon.chg.state ≠ .cv) (hdone : s.mon.chg.state ≠ .done) : s.chargerCell = s := by
  unfold chargerCell
  split
  · exact absurd ‹_› hprecharge
  · exact absurd ‹_› hcc
  · exact absurd ‹_› hcv
  · exact absurd ‹_› hdone
  · rfl

end State

/-- Settles O59: a change of state by moveCharger_of_ne and the fields of Charger.moved_eq, the demand by its table, each
expiry by exec_of_expiry, and the cells by the state that finds them. -/
theorem chargerChangesItsState : Obligations.ChargerChangesItsState := by
  refine ⟨fun s new cause causes => ⟨fun h => State.moveCharger_of_same h cause causes, fun h => ?_⟩,
    fun a b => ⟨rfl, rfl, rfl⟩, fun held cell1 cell2 => nextDemand_of_unknown, fun s d harrives => ?_, fun s => ?_⟩
  · intro c fresh ended paused kept run c' u
    have hkept : ∀ t : ChargeTimer, kept t = if paused then t.pause s.monNow else t := by
      rintro (_ | _ | _)
      · exact (ite_self _).symm
      · rfl
      · exact (ite_self _).symm
    have hrun : ∀ (t : ChargeTimer) (minutes : Nat), run t minutes = t.resume s.monNow (minutesMs minutes) := by
      rintro (_ | _ | _) minutes <;> rfl
    exact State.moveCharger_of_ne h cause causes (c.moved_eq new s.monNow causes _ hkept hrun) rfl
  · exact ⟨fun hqualify => ⟨State.exec_qualifyDeadlineExpiry harrives rfl hqualify rfl Iff.rfl,
        (atLeast_eq_false_iff _ _).symm⟩,
      State.exec_prechargeTimerExpiry harrives rfl, State.exec_fastTimerExpiry harrives rfl,
      State.exec_zeroDeadlineExpiry harrives rfl, State.exec_weakClearExpiry_outside_hold harrives rfl,
      fun hweak h => State.exec_weakClearExpiry_in_hold harrives rfl hweak h rfl⟩
  · exact ⟨State.chargerCell_of_precharge, State.chargerCell_of_cc, State.chargerCell_of_drained,
      State.chargerCell_of_balancing, State.chargerCell_of_other⟩

end Sys2Proof.Machine
end

section
/-! PROOFS. CHARGE INHIBIT and CHARGE SETUP, the temperatures, and the input with its floor loop (R136, R138, R144, R146,
R147, R149). -/

namespace Sys2Proof

/-- The ranges of 09 section 9.1. -/
def ChargeSettings.InRange (a : ChargeSettings) : Prop :=
  100 ≤ a.icc ∧ a.icc ≤ 3000 ∧ 4100 ≤ a.vcv ∧ a.vcv ≤ 4350 ∧ 20 ≤ a.iterm ∧ a.iterm ≤ 500 ∧ 2500 ≤ a.prechargeMv ∧
  a.prechargeMv ≤ 3300 ∧ 1 ≤ a.prechargeMin ∧ a.prechargeMin ≤ 120 ∧ 30 ≤ a.fastMin ∧ a.fastMin ≤ 600 ∧
  4400 ≤ a.vfloor ∧ a.vfloor ≤ 12000

end Sys2Proof

namespace Sys2Proof.Machine

/-! ### CHARGE INHIBIT and CHARGE SETUP (R138, R149) -/

theorem checkCharge_iff (a : ChargeSettings) : checkCharge a = true ↔ a.InRange := by
  simp [checkCharge, within, ChargeSettings.InRange, and_assoc]

section
variable {s : State} (htakes : s.Takes) (tag : Byte)
include htakes

theorem exec_chargeInhibit_on {on : State} (hon : { s.owing with mon.chg.inhibit := true } = on) :
    exec (.chargeInhibit tag (some true)) s = .next
      ((if s.mon.chg.state = .noInput then on else on.moveCharger .inhibited .inhibitOn .empty).answer tag .ok) := by
  have hexec : exec (.chargeInhibit tag (some true)) s = .next (s.request tag .control _) := rfl
  rw [hexec, State.request_of_takes htakes, ← hon]; rfl

theorem exec_chargeInhibit_off {off : State} (hoff : { s.owing with mon.chg.inhibit := false } = off) :
    exec (.chargeInhibit tag (some false)) s = .next
      ((if s.mon.chg.state = .inhibited then off.moveCharger .qualify .inhibitOff .empty else off).answer tag .ok) := by
  have hexec : exec (.chargeInhibit tag (some false)) s = .next (s.request tag .control _) := rfl
  rw [hexec, State.request_of_takes htakes, ← hoff]; rfl

theorem exec_chargeSetup_taken {a : ChargeSettings} (h : a.InRange) :
    exec (.chargeSetup tag a) s = .next
      (({ s with mon.chg.settings := a } : State).settleIccEff.replied tag .ok .none) :=
  State.exec_of_answer htakes rfl (if_pos ((checkCharge_iff a).mpr h)) htakes.1

theorem exec_chargeSetup_refused {a : ChargeSettings} (h : ¬a.InRange) :
    exec (.chargeSetup tag a) s = .next (s.replied tag .badArg .none) :=
  State.exec_of_refusal htakes rfl (if_neg (mt (checkCharge_iff a).mp h))

end

/-! ### The temperatures (R144) -/

theorem above_iff (v : Option Int) (limit : Int) : above v limit = true ↔ ∃ t, v = some t ∧ limit < t := by
  cases v <;> simp [above]

/-- A level crossed downward or upward, or left where it was. -/
theorem ite_crossing {α : Type} (old new : Bool) (fallen risen same : α) :
    (if old && !new then fallen else if !old && new then risen else same) =
      if old = new then same else if new then risen else fallen := by
  cases old <;> cases new <;> rfl

namespace State
variable {s : State}

/-- The current in force, with the floor and the setpoint under it (R144, R147). -/
theorem settleIccEff_eq {eff : Nat} (heff : s.computeIccEff = eff) :
    s.settleIccEff =
      { s with
        mon.chg.iccEff := eff
        mon.chg.iFloor := min s.mon.chg.iFloor eff
        mon.chg.setpoint := if s.mon.chg.state = .cc then min eff (min s.mon.chg.iFloor eff) else 0 } := by
  rw [settleIccEff, heff]; rfl

/-- A battery above 400 or a die above 950 halves the current (R144). -/
theorem computeIccEff_eq {hot : Prop}
    (hhot : hot ↔ (∃ t, s.latest .battTemp = some t ∧ 400 < t) ∨ ∃ t, s.latest .dieTemp = some t ∧ 950 < t) {eff : Nat}
    (hhalf : hot → eff = s.mon.chg.settings.icc / 2) (hfull : ¬hot → eff = s.mon.chg.settings.icc) :
    s.computeIccEff = eff := by
  have habove : (above (s.latest .battTemp) 400 || above (s.latest .dieTemp) 950) = true ↔ hot := by
    rw [hhot, Bool.or_eq_true, above_iff, above_iff]
  by_cases h : hot
  · rw [hhalf h, computeIccEff, if_pos (habove.mpr h)]
  · rw [hfull h, computeIccEff, if_neg (mt habove.mp h)]

theorem chargerBattTemp_eq (s : State) {t : Int} {inside : Bool}
    (hinside : windowAfter s.mon.chg.windowInside t = inside) {u : State}
    (hu : ({ s with mon.chg.windowInside := inside } : State).settleIccEff = u) :
    s.chargerBattTemp t =
      if s.mon.chg.windowInside = inside then u else if inside then u.endHold .temp else u.beginHold .temp := by
  rw [← ite_crossing, ← hu, ← hinside]; rfl

theorem chargerDieTemp_eq (s : State) {t : Int} {hot : Bool} (hhot : dieHotAfter s.mon.chg.dieHot t = hot) {v : State}
    (hv : ({ s with mon.chg.dieHot := hot } : State).settleIccEff = v) :
    s.chargerDieTemp t = if s.mon.chg.dieHot = hot then v else if hot then v.beginHold .die else v.endHold .die := by
  rw [chargerDieTemp, hhot, setDieHot, ← hv]
  cases s.mon.chg.dieHot <;> cases hot <;> rfl

end State

/-! ### The input and its floor loop (R136, R146) -/

/-- The floor of CC moved by a sixteenth of the current set, with the deadline of a floor at 0 and the setpoint under it
(R146, R147). -/
theorem Charger.floorLoop_eq {c : Charger} (hcc : c.state = .cc) (mv : Int) (now : Time) {floor : Nat}
    (hfloor : floorAfter c mv = floor) :
    c.floorLoop mv now =
      { c with
        iFloor := floor
        zero := if 0 < floor then none else if c.iFloor = 0 then c.zero else some (now + 2000)
        setpoint := min c.iccEff floor } := by
  have hzero : (if floor = 0 then (if c.iFloor = 0 then c.zero else some (later now Config.zeroMs)) else none) =
      if 0 < floor then none else if c.iFloor = 0 then c.zero else some (now + 2000) := by
    rcases Nat.eq_zero_or_pos floor with rfl | hpos
    · rfl
    · rw [if_neg hpos.ne', if_pos hpos]
  simp only [floorLoop, settleSetpoint, computeSetpoint, hfloor, hzero, if_pos hcc]

namespace State
variable {s : State}

theorem moveCharger_settings (new : ChargerState) (cause : ChargerCause) (causes : HoldCauses) :
    (s.moveCharger new cause causes).mon.chg.settings = s.mon.chg.settings := by
  by_cases hsame : s.mon.chg.state = new
  · rw [moveCharger_of_same hsame]
  · have hmoved : ∀ demand, (s.mon.chg.moved new s.monNow causes demand).settings = s.mon.chg.settings := by
      cases new <;> exact fun _ => rfl
    rw [moveCharger_of_ne hsame cause causes rfl rfl]
    split <;> simp [hmoved]

/-! Presence, by what the charger finds (R136). -/

theorem judgeInput_of_absent {mv : Int} (h : s.mon.chg.inputPresent = true) (hmv : mv < 4000) :
    s.judgeInput mv = s.inputAbsent := by rw [judgeInput, if_pos h, if_pos hmv]

theorem judgeInput_of_still_present {mv : Int} (h : s.mon.chg.inputPresent = true) (hmv : 4000 ≤ mv) :
    s.judgeInput mv = s := by rw [judgeInput, if_pos h, if_neg (Int.not_lt.mpr hmv)]

section
variable {mv : Int} (h : s.mon.chg.inputPresent = false)
include h

theorem judgeInput_of_low (hmv : mv < 4300) : s.judgeInput mv = { s with mon.chg.highCount := 0 } := by
  rw [judgeInput, h, if_neg (Int.not_le.mpr hmv)]; rfl

variable (hmv : 4300 ≤ mv)
include hmv

theorem judgeInput_of_few (hfew : s.mon.chg.highCount < 2) :
    s.judgeInput mv = { s with mon.chg.highCount := s.mon.chg.highCount + 1 } := by
  rw [judgeInput, h, if_pos hmv, if_neg (Nat.not_le.mpr hfew)]; rfl

theorem judgeInput_of_third (hthird : 2 ≤ s.mon.chg.highCount) : s.judgeInput mv = s.inputPresent := by
  rw [judgeInput, h, if_pos hmv, if_pos hthird]; rfl

end

/-- Input that becomes present, told of the rail after it and of the charger after both (R131, R136, R153). -/
theorem inputPresent_eq {u v : State}
    (hu : ({ s with mon.chg.inputPresent := true, mon.chg.highCount := 3 } : State).settleRail = u)
    (hv : (if s.mon.chg.state = .noInput then
        u.moveCharger (if s.mon.chg.inhibit then .inhibited else .qualify) .inputPresent .empty else u) = v) :
    s.inputPresent = v.protectInput.settleEnergy .inputPresent := by
  obtain ⟨_, _, _, _, hchg, _⟩ :=
    ({ s with mon.chg.inputPresent := true, mon.chg.highCount := 3 } : State).settleRail_frame
  have hset : (s.onChg fun c => { c with inputPresent := true, highCount := 3 }).settleRail = u := hu
  rw [hu] at hchg
  rw [inputPresent, hset, ← hv]
  simp only [hchg]

theorem inputAbsent_settings : s.inputAbsent.mon.chg.settings = s.mon.chg.settings := by
  simp [inputAbsent, moveCharger_settings]

theorem inputPresent_settings : s.inputPresent.mon.chg.settings = s.mon.chg.settings := by
  rw [inputPresent_eq rfl rfl]
  split <;> simp [moveCharger_settings]

/-- Presence is nothing that the settings hang on, whatever it makes of the charger (R136). -/
theorem judgeInput_settings (mv : Int) : (s.judgeInput mv).mon.chg.settings = s.mon.chg.settings := by
  unfold judgeInput
  (repeat' split)
  · exact inputAbsent_settings
  · rfl
  · exact inputPresent_settings
  · rfl
  · rfl

/-- Presence, and then the floor loop where that leaves the charger in CC (R136, R146). -/
theorem chargerInput_eq {u : State} {mv : Int} (hu : s.judgeInput mv = u) {floor : Nat}
    (hfloor : (if mv < s.mon.chg.settings.vfloor then u.mon.chg.iFloor - s.mon.chg.settings.icc / 16
      else if (s.mon.chg.settings.vfloor : Int) + 200 ≤ mv then
        min u.mon.chg.iccEff (u.mon.chg.iFloor + s.mon.chg.settings.icc / 16)
      else u.mon.chg.iFloor) = floor) :
    s.chargerInput mv =
      if u.mon.chg.state = .cc then
        { u with
          mon.chg.iFloor := floor
          mon.chg.zero := if 0 < floor then none
            else if u.mon.chg.iFloor = 0 then u.mon.chg.zero else some (u.monNow + 2000)
          mon.chg.setpoint := min u.mon.chg.iccEff floor }
      else u := by
  have hsettings : u.mon.chg.settings = s.mon.chg.settings := hu ▸ judgeInput_settings mv
  rw [← hsettings] at hfloor
  rw [chargerInput, hu]
  split
  next hcc => rw [onChg, Charger.floorLoop_eq hcc mv u.monNow hfloor]
  · rfl

end State

/-- Settles O60: the requests by their checks, the current by the temperatures, each temperature by what it crosses, a hold
by the state that finds it, and an INPUT result by judgeInput with the floor loop after it. -/
theorem chargerInputsAndRequests : Obligations.ChargerInputsAndRequests := by
  refine ⟨fun s tag htakes => ⟨?_, ?_, ?_, fun a => ⟨?_, ?_⟩⟩, fun s => ?_, fun s t => ⟨?_, ?_⟩,
    fun s cause => ⟨fun h => ⟨?_, ?_⟩, fun h => ⟨?_, ?_⟩, fun hprecharge hcc hcv hhold => ⟨?_, ?_⟩⟩, fun s mv => ?_⟩
  · exact State.exec_of_refusal htakes rfl rfl
  · exact exec_chargeInhibit_on htakes tag rfl
  · exact exec_chargeInhibit_off htakes tag rfl
  · exact exec_chargeSetup_taken htakes tag
  · exact exec_chargeSetup_refused htakes tag
  · intro hot c eff hhalf hfull
    exact State.settleIccEff_eq (State.computeIccEff_eq (hot := hot) Iff.rfl hhalf hfull)
  · exact s.chargerBattTemp_eq rfl rfl
  · exact s.chargerDieTemp_eq rfl rfl
  · exact State.beginHold_of_charging cause h
  · exact State.endHold_of_other cause fun hhold => by simp [hhold] at h
  · exact State.beginHold_of_hold cause h
  · exact State.endHold_of_hold cause h rfl
  · exact State.beginHold_of_other cause hprecharge hcc hcv hhold
  · exact State.endHold_of_other cause hhold
  · exact ⟨fun h hmv => State.chargerInput_eq (State.judgeInput_of_still_present h hmv) rfl,
      fun h hmv => State.chargerInput_eq (State.judgeInput_of_absent h hmv) rfl,
      fun h hmv => State.chargerInput_eq (State.judgeInput_of_low h hmv) rfl,
      fun h hmv hfew => State.chargerInput_eq (State.judgeInput_of_few h hmv hfew) rfl,
      fun h hmv hthird => State.chargerInput_eq
        ((State.judgeInput_of_third h hmv hthird).trans (State.inputPresent_eq rfl rfl)) rfl⟩

end Sys2Proof.Machine
end

section
/-! PROOFS. PATH RESET: its two refusals, and the path reset that it begins (R154, R157). -/

namespace Sys2Proof.Machine

theorem any_slot_in_use_iff (s : State) :
    (slotIndices.any fun i => (s.slot i).state != .free) = true ↔ ∃ i, (s.slot i).state ≠ .free := by
  simp [mem_slotIndices]

/-- A request outstanding is lost with the path domain, that of the PATH RESET among them (R157). -/
theorem State.beginPathReset_owing (s : State) (cause : ResetCause) :
    s.owing.beginPathReset cause = s.beginPathReset cause := rfl

section
variable {s : State} (htakes : s.Takes) (tag : Byte)
include htakes

theorem exec_pathReset_badArg : exec (.pathReset tag none) s = .next (s.replied tag .badArg .none) :=
  State.exec_of_refusal htakes rfl rfl

/-- With force NO, a slot in use or an entry queued holds the reset off (R157). -/
theorem exec_pathReset_badState (h : (∃ i, (s.slot i).state ≠ .free) ∨ s.path.card.queue ≠ []) :
    exec (.pathReset tag (some false)) s = .next (s.replied tag .badState .none) :=
  State.exec_of_refusal htakes rfl (if_pos ⟨rfl, h.imp_left (any_slot_in_use_iff s).mpr⟩)

/-- With the checks passed the path reset begins, and no reply joins the queue (R154, R157). -/
theorem exec_pathReset_taken {forced : Bool}
    (h : forced = true ∨ (∀ i, (s.slot i).state = .free) ∧ s.path.card.queue = []) :
    exec (.pathReset tag (some forced)) s = .next (s.beginPathReset .request) := by
  have hexec : exec (.pathReset tag (some forced)) s = .next (s.request tag .control _) := rfl
  rw [hexec, State.request_of_takes htakes, ← State.beginPathReset_owing]
  refine congrArg _ (if_neg ?_)
  rintro ⟨hno, hbusy⟩
  obtain hyes | ⟨hfree, hempty⟩ := h
  · exact absurd (hno.symm.trans hyes) Bool.false_ne_true
  · obtain hslot | hqueue := hbusy
    · obtain ⟨i, hi⟩ := (any_slot_in_use_iff s).mp hslot
      exact hi (hfree i)
    · exact hqueue hempty

end

/-- Settles O7: the flag's refusal, the refusal of NO while the path domain has work, and the path reset otherwise. -/
theorem pathResetRequest : Obligations.PathResetRequest := fun _ tag htakes =>
  ⟨exec_pathReset_badArg htakes tag, exec_pathReset_badState htakes tag, fun _ h => exec_pathReset_taken htakes tag h⟩

end Sys2Proof.Machine
end

section
/-! PROOFS. What the link interface does at its limits: a request beyond the 8 outstanding, a notice beyond the 16 of the
queue, and both with the path domain down or in reset (R135, R161, R163, R168). -/

namespace Sys2Proof

/-- The packet a request came in: CARD READ alone has one of its own (11 section 11.1). -/
def Instr.requestKind (c : Instr) : Machine.RequestKind :=
  match c with
  | .cardRead _ _ => .cardRead
  | _ => .control

end Sys2Proof

namespace Sys2Proof.Machine

/-- Every command with a tag is a request, made under that tag and the kind of its packet (R161): one without a tag
contradicts the premise, and each of the others is its State.request by definition. -/
theorem exec_eq_request {c : Instr} {tag : Byte} (h : c.tag? = some tag) :
    ∃ body, ∀ s, exec c s = .next (s.request tag c.requestKind body) := by
  cases c <;> cases h
  all_goals exact ⟨_, fun _ => rfl⟩

namespace State

/-! ### A request that is not taken -/

theorem request_of_down {s : State} (h : s.pathUp = false) (tag : Byte) (kind : RequestKind) (body : State → State) :
    s.request tag kind body = s := by
  simp [request, h]

/-- A request that finds 8 outstanding is counted and noticed, and its body is not run (R161). -/
theorem request_of_full {s : State} (hup : s.pathUp = true) (hfull : 8 ≤ s.path.link.outstanding) (tag : Byte)
    (kind : RequestKind) (body : State → State) :
    s.request tag kind body =
      ({ s with path.link.requestsLost := min (s.path.link.requestsLost + 1) 4294967295 } : State).notify
        (.requestLost tag kind) := by
  rcases s.request_cases tag kind body with ⟨_, hfew, _⟩ | ⟨_, _, heq⟩ | ⟨hdown, _⟩
  · exact absurd hfew (Nat.not_lt.mpr hfull)
  · exact heq
  · rw [hup] at hdown; cases hdown

/-! ### A notice -/

theorem notify_of_down {s : State} (h : s.pathUp = false) (n : Notice) : s.notify n = s := by
  simp [notify, h]

theorem notify_of_up {s : State} (h : s.pathUp = true) (n : Notice) :
    s.notify n = (s.onLink fun l => l.offer n).chooseUnit := by
  simp [notify, h]

/-- A notice that finds room joins the tail of the queue (R163). -/
theorem notify_of_room {s : State} (hup : s.pathUp = true) (hroom : s.path.link.notices.length < 16) (n : Notice) :
    s.notify n = s.noticed n := by
  rcases s.path.link.offer_cases n with ⟨_, heq⟩ | ⟨hfull, _⟩
  · rw [notify_of_up hup, onLink, heq]; rfl
  · exact absurd hroom (Nat.not_lt.mpr hfull)

/-- A notice that finds the queue full is dropped and counted in both counts, and a free lane still has its choice
(R163, R165). -/
theorem notify_of_full {s : State} (hup : s.pathUp = true) (hfull : 16 ≤ s.path.link.notices.length) (n : Notice) :
    s.notify n = State.chooseUnit
      { s with
        path.link.lostSinceSent := min (s.path.link.lostSinceSent + 1) 65535
        path.link.noticesLost := min (s.path.link.noticesLost + 1) 4294967295 } := by
  rcases s.path.link.offer_cases n with ⟨hroom, _⟩ | ⟨_, heq⟩
  · exact absurd hroom (Nat.not_lt.mpr hfull)
  · rw [notify_of_up hup, onLink, heq]; rfl

end State

/-- Settles O8: every command with a tag is a State.request, which is lost or not taken whatever its body; a notice by the
room in its queue. -/
theorem requestsAndNoticesBeyondTheirLimits : Obligations.RequestsAndNoticesBeyondTheirLimits := by
  refine ⟨fun c tag s htag => ?_, fun s n =>
    ⟨fun h => State.notify_of_down h n, fun hup h => State.notify_of_room hup h n,
      fun hup h => State.notify_of_full hup h n⟩⟩
  obtain ⟨body, hexec⟩ := exec_eq_request htag
  exact ⟨fun hdown => (hexec s).trans (congrArg _ (State.request_of_down hdown ..)),
    fun hup hfull => (hexec s).trans (congrArg _ (State.request_of_full hup hfull ..))⟩

end Sys2Proof.Machine
end

section
/-! PROOFS. What the link interface answers of its own: the packets that reach no owner (R159, R160, R169), and IDENTIFY,
STATUS READ and ENERGY READ with the snapshots they carry (R166, R167). -/

namespace Sys2Proof.Machine

/-! ### The snapshots -/

/-- A path reset begins with every counter at 0 (R166). -/
theorem State.counters_beginPathReset (s : State) (cause : ResetCause) :
    (s.beginPathReset cause).counters = ⟨0, 0, 0, 0, 0, 0, 0, 0, 0, 0, 0, 0, 0, 0, 0⟩ := rfl

/-- The state of charge in tenths of a percent, rounded down, at most 1000 (R121). -/
theorem Converter.soc_eq (c : Converter) : c.soc = min 1000 (c.charge / c.capacity) := by
  rw [soc, Int.fdiv_eq_ediv_of_nonneg _ (Int.natCast_nonneg c.capacity)]

section
variable {s : State} {d : Time}

theorem State.monLeftMs_of_ahead (hlo : 1 ≤ (d - s.monNow).toNat) (hhi : (d - s.monNow).toNat ≤ 2147483647) :
    s.monLeftMs d = (d - s.monNow).toNat :=
  if_pos (decide_eq_true ⟨hlo, hhi⟩)

theorem State.monLeftMs_of_reached (h : d = s.monNow ∨ 2147483648 ≤ (d - s.monNow).toNat) : s.monLeftMs d = 0 := by
  refine if_neg (mt of_decide_eq_true ?_)
  rintro ⟨hlo, hhi⟩
  rcases h with rfl | hfar
  · simp at hlo
  · omega

end

/-- What is left of a hold-off: 0 where none runs or its deadline is reached, and otherwise the time to it (R167). -/
theorem State.holdoffLeft_spec (s : State) (deadline : Option Time) :
    (deadline = none → s.holdoffLeft deadline = 0) ∧
    ∀ d, deadline = some d →
      (1 ≤ (d - s.monNow).toNat → (d - s.monNow).toNat ≤ 2147483647 →
        s.holdoffLeft deadline = (d - s.monNow).toNat) ∧
      (d = s.monNow ∨ 2147483648 ≤ (d - s.monNow).toNat → s.holdoffLeft deadline = 0) := by
  cases deadline with
  | none => exact ⟨fun _ => rfl, nofun⟩
  | some d =>
    refine ⟨nofun, fun _ h => ?_⟩
    cases h
    exact ⟨State.monLeftMs_of_ahead, State.monLeftMs_of_reached⟩

/-! ### The commands -/

/-- A packet with a header in error is counted and noticed with the received total (R159). -/
theorem exec_headerError {s : State} (hup : s.pathUp = true) :
    exec .headerError s = .next
      (({ s with path.link.headerErrors := min (s.path.link.headerErrors + 1) 4294967295 } : State).notify
        (.linkError (min (s.path.link.headerErrors + 1) 4294967295) s.path.link.received)) :=
  congrArg _ (State.whenUp_of_pathUp hup State.headerError)

section
variable {s : State} (htakes : s.Takes) (tag : Byte)
include htakes

/-- A request that is taken and answered with data, its state otherwise as it was. -/
theorem State.exec_of_reply {c : Instr} {code : ReplyCode} {data : ReplyData} {body : State → State}
    (hexec : exec c s = .next (s.request tag .control body))
    (hbody : body s.owing = s.owing.reply tag code data) : exec c s = .next (s.replied tag code data) := by
  rw [hexec, State.request_of_takes htakes, hbody, State.reply_of_pathUp (s := s.owing) htakes.1]; rfl

theorem exec_identify : exec (.identify tag) s = .next (s.replied tag .ok (.identity 0x2B 460 3)) :=
  State.exec_of_reply htakes tag rfl rfl

theorem exec_statusRead : exec (.statusRead tag) s = .next (s.replied tag .ok (.counters s.counters)) :=
  State.exec_of_reply htakes tag rfl rfl

theorem exec_energyRead : exec (.energyRead tag) s = .next (s.replied tag .ok (.energy s.energySnapshot)) :=
  State.exec_of_reply htakes tag rfl rfl

/-- A control payload that fails its check is counted and answered BAD_CHECK (R160). -/
theorem exec_controlPayloadFailure :
    exec (.controlPayloadFailure tag) s = .next
      (({ s with path.link.payloadErrors := min (s.path.link.payloadErrors + 1) 4294967295 } : State).replied
        tag .badCheck .none) :=
  State.exec_of_answer (u := { s with path.link.payloadErrors := min (s.path.link.payloadErrors + 1) 4294967295 })
    htakes rfl rfl htakes.1

/-- What UNKNOWN_REQUEST is answered turns on the request kind code alone (R160, R169, log 23). -/
theorem exec_unknownRequest (code : Option Byte) :
    exec (.unknownRequest tag code) s = .next
      (s.replied tag (if knownCode code then .badArg else .unknown) .none) :=
  State.exec_of_refusal htakes rfl rfl

end

/-! ### The statements -/

/-- Settles O10: both answers by State.exec_of_reply, and the counters of the path domain's reset state. -/
theorem identifyAndStatusRead : Obligations.IdentifyAndStatusRead :=
  ⟨fun _ tag htakes => ⟨exec_identify htakes tag, exec_statusRead htakes tag⟩, State.counters_beginPathReset⟩

theorem knownCode_of_outside {code : Byte} (h : code.toNat = 0 ∨ 26 < code.toNat) : knownCode (some code) = false :=
  decide_eq_false (by omega)

theorem knownCode_of_within {code : Byte} (hlo : 1 ≤ code.toNat) (hhi : code.toNat ≤ 26) :
    knownCode (some code) = true :=
  decide_eq_true ⟨hlo, hhi⟩

/-- Settles O11: each packet by its command, the request kind code by knownCode, and the snapshot item by item with what is
left of the two hold-offs by State.holdoffLeft_spec. -/
theorem linkInterfaceAnswers : Obligations.LinkInterfaceAnswers := by
  refine ⟨fun s hup => exec_headerError hup, fun s tag htakes => ⟨exec_controlPayloadFailure htakes tag,
    exec_unknownRequest htakes tag none, fun code h => ?_, fun code hlo hhi => ?_, exec_energyRead htakes tag⟩,
    fun s => ⟨_, _, s.holdoffLeft_spec _, s.holdoffLeft_spec _, ?_⟩⟩
  · rw [exec_unknownRequest htakes, knownCode_of_outside h]; rfl
  · rw [exec_unknownRequest htakes, knownCode_of_within hlo hhi]; rfl
  · rw [← s.mon.conv.soc_eq]; rfl

end Sys2Proof.Machine
end

section
/-! PROOFS. The queue: what a step does while a command waits. Beside step_of_due and step_of_nothing_due, which speak of
an empty queue, this is the third branch of step. -/

namespace Sys2Proof.Machine

theorem step_of_front {s : State} {c : Instr} {rest : List Instr} (hfront : s.pending = c :: rest) :
    step s = exec c { s with pending := rest } := by
  simp only [step, hfront]

/-- Settles O1: the branch of step in which a command waits. -/
theorem stepRunsFrontCommand : Obligations.StepRunsFrontCommand :=
  fun _ _ _ hfront => step_of_front hfront

end Sys2Proof.Machine
end
